-- ==== Sys2Proof/Config.lean ====
section
/-! DEFINITION. What the implementation fixes (spec/00_scope.md R3, R4) and the free values of the model. -/

namespace Sys2Proof.Config

/-- The default of the OPEN parameter `TSW`, the width of a timestamp (R4, D5). The operations take the width from their
parameters, `Params.tsw`; `exec` and `step` run with this default. -/
abbrev TSW : Nat := 64

/-- `MAXOPS`, the largest number of operand bytes of one target instruction (R3). -/
abbrev maxOperands : Nat := 2

/-- The level of pin `cfg_variant` that `State.reset` latched (R23: "the level of pin `cfg_variant` at reset").
DESIGN CHOICE 1 (extended), the reset `RST 1 0` that spec/95_test_vectors.md starts from: log entry 2. -/
abbrev resetVariantPin : BitVec 1 := 1

/-- The level of pin `cfg_strict` that `State.reset` latched (R23). DESIGN CHOICE 0 (soft): log entry 2. -/
abbrev resetStrictPin : BitVec 1 := 0

/-- A free value of `w` bits: what a register holds that the RESET event leaves "unspecified" (R180, R23, U6).
The step supplies the index from the counter `State.freeCtr`. It has no body, so nothing can be proved of its value:
log entry 3. -/
opaque freeValue (w : Nat) (k : Nat) : BitVec w

end Sys2Proof.Config
end

