-- ==== Sys2Proof/Word.lean ====
section
/-! DEFINITION. The word types of the block (spec/00_scope.md R3; spec/30_encoding.md R46). -/

namespace Sys2Proof

/-- The sampled data lines, 8 bits (`DATA_W`, R3). -/
abbrev Byte := BitVec 8

/-- The sampled address lines, 16 bits (`ADDR_W`, R3). -/
abbrev Addr := BitVec 16

/-- A timestamp, an opaque token that the block only copies (R15): "A model may use natural numbers" (D5). Its width is the
parameter `Params.tsw`; that a token fits it is `Timestamp.fits`, an invariant (log entry 15). -/
abbrev Timestamp := Nat

/-- The control part and the whole of a raw cycle word `in_raw`, 28 bits (R46). -/
abbrev RawWord := BitVec 28

/-- Text as its ASCII codes (R55: "string, 3 to 12 ASCII characters"). -/
abbrev Text := List Byte

/-- The ASCII code of a character. -/
def ascii (c : Char) : Byte := BitVec.ofNat 8 c.toNat

/-- A text written as its characters. -/
def text (cs : List Char) : Text := cs.map ascii

end Sys2Proof
end

