-- ==== Sys2Proof/Syntax.lean ====
section
/-! DEFINITION. The words the block reads and writes, as types, and `Instr`: one constructor per row (log entry 9) of
spec/opcode_table.json (level E events and level T target opcodes, spec/00_scope.md R1). -/

namespace Sys2Proof

/-- A control-line level as sampled (R47): low, high or indeterminate. -/
inductive L3 where
  | low
  | high
  | indet
  deriving DecidableEq, Repr

/-- `cycleKind` (R48). -/
inductive CycleKind where
  | fetch
  | read
  | write
  | ambiguous
  deriving DecidableEq, Repr

/-- One bus cycle's timestamp, sampled address and sampled data (R46, R48). -/
structure Cycle where
  ts   : Timestamp
  addr : Addr
  data : Byte
  deriving DecidableEq, Repr

/-- The classifier's output (R48). -/
structure BusCycle extends Cycle where
  kind : CycleKind
  deriving DecidableEq, Repr

/-- Where and when a target opcode was fetched: the part of a FETCH cycle beside its opcode byte. -/
structure OpFetch where
  ts   : Timestamp
  addr : Addr
  deriving DecidableEq, Repr

/-- The fetch cycle that carries opcode byte `op`. -/
def OpFetch.cycle (f : OpFetch) (op : Byte) : Cycle := ⟨f.ts, f.addr, op⟩

/-- AddressingMode, the closed enumeration of 15 tags (R53). Code 15 has no constructor (U3, U4). -/
inductive AddrMode where
  | implied
  | impliedAccumulator
  | relative
  | immediate
  | zeroPage
  | zeroPageX
  | zeroPageY
  | indexedIndirect
  | indirectIndexed
  | indirect
  | absolute
  | absoluteX
  | absoluteY
  | absoluteIndirect16
  | absoluteIndirectX
  deriving DecidableEq, Repr

/-- The three target instruction formats (R49); the format is the byte length. -/
inductive Format where
  | op1
  | op2
  | op3
  deriving DecidableEq, Repr

/-- A mnemonic: three ASCII characters (R52, D10). -/
structure Mnemonic where
  c1 : Byte
  c2 : Byte
  c3 : Byte
  deriving DecidableEq, Repr

/-- A mnemonic written as its characters. -/
def mn (a b c : Char) : Mnemonic := ⟨ascii a, ascii b, ascii c⟩

/-- The three characters as text. -/
def Mnemonic.text (m : Mnemonic) : Text := [m.c1, m.c2, m.c3]

/-- InstructionDescriptor: "(mnemonic, mode)" (R52). -/
structure Descriptor where
  mn   : Mnemonic
  mode : AddrMode
  deriving DecidableEq, Repr

/-- ModeEncoding: the byte length, as the format, and the template (R54). A template is named by the mode whose rule among
R81 to R95 gives it; its number is that mode's code. -/
structure ModeEncoding where
  format : Format
  tmpl   : AddrMode
  deriving DecidableEq, Repr

/-- The opcode table `OPTAB`: for each variant and opcode byte one descriptor, no gaps (R71, R78 (a), (c)). -/
abbrev OpTable := BitVec 1 → Byte → Descriptor

/-- The mode table `MODETAB`: one ModeEncoding for each of the 15 modes (R30, R54, R80). -/
abbrev ModeTable := AddrMode → ModeEncoding

/-- The parameters the spec leaves open or names: the two tables (R30), the branch prefix and the width of a timestamp (R4). -/
structure Params where
  optab        : OpTable
  modetab      : ModeTable
  branchPrefix : Text
  tsw          : Nat

/-- The token is a value of `TSW` bits (R4, D5). -/
abbrev Timestamp.fits (P : Params) (t : Timestamp) : Prop := t < 2 ^ P.tsw

/-- Record field `kind` (R56). -/
inductive RecKind where
  | complete
  | unknown
  | truncated
  deriving DecidableEq, Repr

/-- Record field `reason` (R56). -/
inductive Reason where
  | none
  | desync
  | endOfStream
  deriving DecidableEq, Repr

/-- Record field `err` (R56; code 3 is "never in a record"). -/
inductive RecErr where
  | none
  | unknownOpcode
  | truncatedInstruction
  deriving DecidableEq, Repr

/-- The output record (R55). `startTs` and `endTs` are the spec's `start` and `end`. -/
structure Record where
  kind    : RecKind
  reason  : Reason
  err     : RecErr
  opcode  : Byte
  mn      : Mnemonic
  mode    : AddrMode
  len     : BitVec 2
  cnt     : BitVec 2
  b0      : Byte
  b1      : Byte
  pc      : Addr
  target  : Addr
  text    : Text
  startTs : Timestamp
  endTs   : Timestamp
  deriving DecidableEq, Repr

/-- The input ports as sampled in one step (R19): what the outside world presents to the block. -/
structure PortSample where
  rst        : Bool
  cfgVariant : BitVec 1
  cfgStrict  : BitVec 1
  inValid    : Bool
  inTs       : Timestamp
  inRaw      : RawWord
  inEos      : Bool
  deriving DecidableEq, Repr

/-- The instructions: one constructor per row of spec/opcode_table.json.

Level E, the block's own events. The two rows of R111 carry the control-line codes their patterns leave open.
Level T, the target opcodes: the block looking up this opcode on an opcode-fetch cycle `f` (R70, R79). A name is the
mnemonic and the short mode name of R53; `unk02` is the row of R77, `unkBaseXX` the base-variant row of one of the 27
opcodes of R59. The 77 rows of R73 that differ in the opcode byte alone (`"???"`, Implied, both variants) are ONE
constructor with the opcode byte as operand, `WellFormed` holding the list of them: Lean's compiler admits no more than
244 constructors with fields (log entry 9). -/
inductive Instr where
  | fetch (c : Cycle)
  | read (c : Cycle)
  | write (c : Cycle)
  | ambigInconsistent (c : Cycle)
  | ambigSync (sync rnw : BitVec 2) (c : Cycle)
  | ambigRnw (sync rnw : BitVec 2) (c : Cycle)
  | eos
  | reset (variant strict : BitVec 1)
  | brkImp (f : OpFetch)
  | oraIzx (f : OpFetch)
  | unk02 (f : OpFetch)
  | tsbZp (f : OpFetch)
  | oraZp (f : OpFetch)
  | aslZp (f : OpFetch)
  | phpImp (f : OpFetch)
  | oraImm (f : OpFetch)
  | aslAcc (f : OpFetch)
  | tsbAbs (f : OpFetch)
  | oraAbs (f : OpFetch)
  | aslAbs (f : OpFetch)
  | bplRel (f : OpFetch)
  | oraIzy (f : OpFetch)
  | oraIzp (f : OpFetch)
  | trbZp (f : OpFetch)
  | oraZpx (f : OpFetch)
  | aslZpx (f : OpFetch)
  | clcImp (f : OpFetch)
  | oraAby (f : OpFetch)
  | incAcc (f : OpFetch)
  | trbAbs (f : OpFetch)
  | oraAbx (f : OpFetch)
  | aslAbx (f : OpFetch)
  | jsrAbs (f : OpFetch)
  | andIzx (f : OpFetch)
  | bitZp (f : OpFetch)
  | andZp (f : OpFetch)
  | rolZp (f : OpFetch)
  | plpImp (f : OpFetch)
  | andImm (f : OpFetch)
  | rolAcc (f : OpFetch)
  | bitAbs (f : OpFetch)
  | andAbs (f : OpFetch)
  | rolAbs (f : OpFetch)
  | bmiRel (f : OpFetch)
  | andIzy (f : OpFetch)
  | andIzp (f : OpFetch)
  | bitZpx (f : OpFetch)
  | andZpx (f : OpFetch)
  | rolZpx (f : OpFetch)
  | secImp (f : OpFetch)
  | andAby (f : OpFetch)
  | decAcc (f : OpFetch)
  | bitAbx (f : OpFetch)
  | andAbx (f : OpFetch)
  | rolAbx (f : OpFetch)
  | rtiImp (f : OpFetch)
  | eorIzx (f : OpFetch)
  | eorZp (f : OpFetch)
  | lsrZp (f : OpFetch)
  | phaImp (f : OpFetch)
  | eorImm (f : OpFetch)
  | lsrAcc (f : OpFetch)
  | jmpAbs (f : OpFetch)
  | eorAbs (f : OpFetch)
  | lsrAbs (f : OpFetch)
  | bvcRel (f : OpFetch)
  | eorIzy (f : OpFetch)
  | eorIzp (f : OpFetch)
  | eorZpx (f : OpFetch)
  | lsrZpx (f : OpFetch)
  | cliImp (f : OpFetch)
  | eorAby (f : OpFetch)
  | phyImp (f : OpFetch)
  | eorAbx (f : OpFetch)
  | lsrAbx (f : OpFetch)
  | rtsImp (f : OpFetch)
  | adcIzx (f : OpFetch)
  | stzZp (f : OpFetch)
  | adcZp (f : OpFetch)
  | rorZp (f : OpFetch)
  | plaImp (f : OpFetch)
  | adcImm (f : OpFetch)
  | rorAcc (f : OpFetch)
  | jmpInd (f : OpFetch)
  | adcAbs (f : OpFetch)
  | rorAbs (f : OpFetch)
  | bvsRel (f : OpFetch)
  | adcIzy (f : OpFetch)
  | adcIzp (f : OpFetch)
  | stzZpx (f : OpFetch)
  | adcZpx (f : OpFetch)
  | rorZpx (f : OpFetch)
  | seiImp (f : OpFetch)
  | adcAby (f : OpFetch)
  | plyImp (f : OpFetch)
  | jmpIax (f : OpFetch)
  | adcAbx (f : OpFetch)
  | rorAbx (f : OpFetch)
  | braRel (f : OpFetch)
  | staIzx (f : OpFetch)
  | styZp (f : OpFetch)
  | staZp (f : OpFetch)
  | stxZp (f : OpFetch)
  | deyImp (f : OpFetch)
  | bitImm (f : OpFetch)
  | txaImp (f : OpFetch)
  | styAbs (f : OpFetch)
  | staAbs (f : OpFetch)
  | stxAbs (f : OpFetch)
  | bccRel (f : OpFetch)
  | staIzy (f : OpFetch)
  | staIzp (f : OpFetch)
  | styZpx (f : OpFetch)
  | staZpx (f : OpFetch)
  | stxZpy (f : OpFetch)
  | tyaImp (f : OpFetch)
  | staAby (f : OpFetch)
  | txsImp (f : OpFetch)
  | stzAbs (f : OpFetch)
  | staAbx (f : OpFetch)
  | stzAbx (f : OpFetch)
  | ldyImm (f : OpFetch)
  | ldaIzx (f : OpFetch)
  | ldxImm (f : OpFetch)
  | ldyZp (f : OpFetch)
  | ldaZp (f : OpFetch)
  | ldxZp (f : OpFetch)
  | tayImp (f : OpFetch)
  | ldaImm (f : OpFetch)
  | taxImp (f : OpFetch)
  | ldyAbs (f : OpFetch)
  | ldaAbs (f : OpFetch)
  | ldxAbs (f : OpFetch)
  | bcsRel (f : OpFetch)
  | ldaIzy (f : OpFetch)
  | ldaIzp (f : OpFetch)
  | ldyZpx (f : OpFetch)
  | ldaZpx (f : OpFetch)
  | ldxZpy (f : OpFetch)
  | clvImp (f : OpFetch)
  | ldaAby (f : OpFetch)
  | tsxImp (f : OpFetch)
  | ldyAbx (f : OpFetch)
  | ldaAbx (f : OpFetch)
  | ldxAby (f : OpFetch)
  | cpyImm (f : OpFetch)
  | cmpIzx (f : OpFetch)
  | cpyZp (f : OpFetch)
  | cmpZp (f : OpFetch)
  | decZp (f : OpFetch)
  | inyImp (f : OpFetch)
  | cmpImm (f : OpFetch)
  | dexImp (f : OpFetch)
  | cpyAbs (f : OpFetch)
  | cmpAbs (f : OpFetch)
  | decAbs (f : OpFetch)
  | bneRel (f : OpFetch)
  | cmpIzy (f : OpFetch)
  | cmpIzp (f : OpFetch)
  | cmpZpx (f : OpFetch)
  | decZpx (f : OpFetch)
  | cldImp (f : OpFetch)
  | cmpAby (f : OpFetch)
  | phxImp (f : OpFetch)
  | cmpAbx (f : OpFetch)
  | decAbx (f : OpFetch)
  | cpxImm (f : OpFetch)
  | sbcIzx (f : OpFetch)
  | cpxZp (f : OpFetch)
  | sbcZp (f : OpFetch)
  | incZp (f : OpFetch)
  | inxImp (f : OpFetch)
  | sbcImm (f : OpFetch)
  | nopImp (f : OpFetch)
  | cpxAbs (f : OpFetch)
  | sbcAbs (f : OpFetch)
  | incAbs (f : OpFetch)
  | beqRel (f : OpFetch)
  | sbcIzy (f : OpFetch)
  | sbcIzp (f : OpFetch)
  | sbcZpx (f : OpFetch)
  | incZpx (f : OpFetch)
  | sedImp (f : OpFetch)
  | sbcAby (f : OpFetch)
  | plxImp (f : OpFetch)
  | sbcAbx (f : OpFetch)
  | incAbx (f : OpFetch)
  | unkBase04 (f : OpFetch)
  | unkBase0C (f : OpFetch)
  | unkBase12 (f : OpFetch)
  | unkBase14 (f : OpFetch)
  | unkBase1A (f : OpFetch)
  | unkBase1C (f : OpFetch)
  | unkBase32 (f : OpFetch)
  | unkBase34 (f : OpFetch)
  | unkBase3A (f : OpFetch)
  | unkBase3C (f : OpFetch)
  | unkBase52 (f : OpFetch)
  | unkBase5A (f : OpFetch)
  | unkBase64 (f : OpFetch)
  | unkBase72 (f : OpFetch)
  | unkBase74 (f : OpFetch)
  | unkBase7A (f : OpFetch)
  | unkBase7C (f : OpFetch)
  | unkBase80 (f : OpFetch)
  | unkBase89 (f : OpFetch)
  | unkBase92 (f : OpFetch)
  | unkBase9C (f : OpFetch)
  | unkBase9E (f : OpFetch)
  | unkBaseB2 (f : OpFetch)
  | unkBaseD2 (f : OpFetch)
  | unkBaseDA (f : OpFetch)
  | unkBaseF2 (f : OpFetch)
  | unkBaseFA (f : OpFetch)
  | unknown (op : Byte) (f : OpFetch)
  deriving DecidableEq, Repr

end Sys2Proof
end

