-- ==== Sys2Proof/Decode.lean ====
section
/-! DEFINITION. The decoder and, after it, the encoder. An input word is a sample of the input ports (R19, R46): level E
decoding reads the event it presents, level T decoding reads the target opcode of an opcode-fetch cycle. The packed words
of the tables and the codes of R52 to R56 stand here too. -/

namespace Sys2Proof

/-- Why a word is rejected, by name. -/
inductive DecodeError where
  /-- none of `rst`, `in_valid`, `in_eos` is high: the sample presents no event -/
  | nothingPresented
  /-- level T decoding of an event that is no opcode fetch -/
  | notOpcodeFetch
  /-- mode code 15 (R53, R57, U4) -/
  | reservedModeCode
  /-- `len` code 0 of a ModeEncoding (R54, R57, U4) -/
  | reservedLenCode
  /-- record `kind` 3 (R56, R57, U4) -/
  | reservedKindCode
  /-- record `reason` 3 (R56, R57, U4) -/
  | reservedReasonCode
  /-- record `err` 3 (R56: "never in a record") -/
  | reservedErrCode
  deriving DecidableEq, Repr

/-! ### Codes and packed words (R52 to R56) -/

/-- Mode codes (R53, D6). -/
def AddrMode.code : AddrMode → BitVec 4
  | .implied => 0
  | .impliedAccumulator => 1
  | .relative => 2
  | .immediate => 3
  | .zeroPage => 4
  | .zeroPageX => 5
  | .zeroPageY => 6
  | .indexedIndirect => 7
  | .indirectIndexed => 8
  | .indirect => 9
  | .absolute => 10
  | .absoluteX => 11
  | .absoluteY => 12
  | .absoluteIndirect16 => 13
  | .absoluteIndirectX => 14

/-- The 15 modes in code order (R53). -/
def AddrMode.all : List AddrMode :=
  [.implied, .impliedAccumulator, .relative, .immediate, .zeroPage, .zeroPageX, .zeroPageY, .indexedIndirect,
   .indirectIndexed, .indirect, .absolute, .absoluteX, .absoluteY, .absoluteIndirect16, .absoluteIndirectX]

/-- The mode of a code; 15 is reserved (R53). -/
def AddrMode.ofCode (c : BitVec 4) : Except DecodeError AddrMode :=
  match AddrMode.all.find? (fun m => m.code == c) with
  | some m => .ok m
  | none => .error .reservedModeCode

/-- The byte length that a format is (R49). -/
def Format.len : Format → BitVec 2
  | .op1 => 1
  | .op2 => 2
  | .op3 => 3

/-- The format of a `len` code; 0 is never stored (R54). -/
def Format.ofLen (c : BitVec 2) : Except DecodeError Format :=
  if c = 1 then .ok .op1 else if c = 2 then .ok .op2 else if c = 3 then .ok .op3 else .error .reservedLenCode

/-- `mn[23:0]`: first character in the high byte (R52). -/
def Mnemonic.word (m : Mnemonic) : BitVec 24 := m.c1 ++ m.c2 ++ m.c3

/-- The three characters of a `mn` word (R52). -/
def Mnemonic.ofWord (w : BitVec 24) : Mnemonic := ⟨w.extractLsb' 16 8, w.extractLsb' 8 8, w.extractLsb' 0 8⟩

/-- The 28-bit descriptor word `mn[23:0] ++ mode[3:0]` (R52). -/
def Descriptor.word (d : Descriptor) : BitVec 28 := d.mn.word ++ d.mode.code

/-- Read a descriptor word (R52); mode code 15 is rejected. -/
def Descriptor.ofWord (w : BitVec 28) : Except DecodeError Descriptor :=
  match AddrMode.ofCode (w.extractLsb' 0 4) with
  | .ok m => .ok ⟨Mnemonic.ofWord (w.extractLsb' 4 24), m⟩
  | .error e => .error e

/-- The 6-bit ModeEncoding word: `len` in bits 5:4, `tmpl` in bits 3:0 (R54). -/
def ModeEncoding.word (e : ModeEncoding) : BitVec 6 := e.format.len ++ e.tmpl.code

/-- Read a ModeEncoding word (R54); `len` 0 and template 15 are rejected. -/
def ModeEncoding.ofWord (w : BitVec 6) : Except DecodeError ModeEncoding :=
  match Format.ofLen (w.extractLsb' 4 2), AddrMode.ofCode (w.extractLsb' 0 4) with
  | .ok f, .ok m => .ok ⟨f, m⟩
  | .error e, _ => .error e
  | .ok _, .error e => .error e

/-- `cycleKind` codes (R48, D3). -/
def CycleKind.code : CycleKind → BitVec 2
  | .fetch => 0
  | .read => 1
  | .write => 2
  | .ambiguous => 3

/-- Record `kind` codes (R56). -/
def RecKind.code : RecKind → BitVec 2
  | .complete => 0
  | .unknown => 1
  | .truncated => 2

/-- Read a `kind` code; 3 is reserved (R56, U4). -/
def RecKind.ofCode (c : BitVec 2) : Except DecodeError RecKind :=
  if c = 0 then .ok .complete else if c = 1 then .ok .unknown else if c = 2 then .ok .truncated
  else .error .reservedKindCode

/-- Record `reason` codes (R56). -/
def Reason.code : Reason → BitVec 2
  | .none => 0
  | .desync => 1
  | .endOfStream => 2

/-- Read a `reason` code; 3 is reserved (R56, U4). -/
def Reason.ofCode (c : BitVec 2) : Except DecodeError Reason :=
  if c = 0 then .ok .none else if c = 1 then .ok .desync else if c = 2 then .ok .endOfStream
  else .error .reservedReasonCode

/-- Record `err` codes (R56, R160). -/
def RecErr.code : RecErr → BitVec 2
  | .none => 0
  | .unknownOpcode => 1
  | .truncatedInstruction => 2

/-- Read a record's `err` code; 3 is never in a record (R56). -/
def RecErr.ofCode (c : BitVec 2) : Except DecodeError RecErr :=
  if c = 0 then .ok .none else if c = 1 then .ok .unknownOpcode else if c = 2 then .ok .truncatedInstruction
  else .error .reservedErrCode

/-! ### Level E: the raw cycle word and the ports (R46, R47, R63) -/

/-- The level a 2-bit line code stands for (R47): `00` low, `01` high, `1x` indeterminate. -/
def L3.ofCode (c : BitVec 2) : L3 :=
  if c.getLsbD 1 then .indet else if c.getLsbD 0 then .high else .low

/-- The field `addr`, bits 27:12 (R46). -/
def rawAddr (w : RawWord) : Addr := w.extractLsb' 12 16

/-- The field `data`, bits 11:4 (R46). -/
def rawData (w : RawWord) : Byte := w.extractLsb' 4 8

/-- The field `sync`, bits 3:2 (R46). -/
def rawSync (w : RawWord) : BitVec 2 := w.extractLsb' 2 2

/-- The field `rnw`, bits 1:0 (R46). -/
def rawRnw (w : RawWord) : BitVec 2 := w.extractLsb' 0 2

/-- The cycle a raw word carries. -/
def rawCycle (ts : Timestamp) (w : RawWord) : Cycle := ⟨ts, rawAddr w, rawData w⟩

/-- The word `aaaa << 12 | dd << 4 | sync << 2 | rnw` of R61. -/
def packRaw (addr : Addr) (data : Byte) (sync rnw : BitVec 2) : RawWord := addr ++ data ++ sync ++ rnw

/-- A row of format `RAW` of the opcode table: mask and match over `in_raw[3:0]` (R63). -/
structure RawRow where
  mask  : BitVec 4
  value : BitVec 4
  deriving DecidableEq, Repr

/-- Does the row match these control bits? -/
def RawRow.hits (r : RawRow) (code : BitVec 4) : Bool := code &&& r.mask == r.value

/-- FETCH, `0101` (R63, R107). -/
def rowFetch : RawRow := ⟨0xF, 0x5⟩
/-- READ, `0001` (R63, R108). -/
def rowRead : RawRow := ⟨0xF, 0x1⟩
/-- WRITE, `0000` (R63, R109). -/
def rowWrite : RawRow := ⟨0xF, 0x0⟩
/-- AMBIG by inconsistent levels, `0100` (R63, R110). -/
def rowAmbigInconsistent : RawRow := ⟨0xF, 0x4⟩
/-- AMBIG with `sync` indeterminate, `1xxx` (R63, R111). -/
def rowAmbigSync : RawRow := ⟨0x8, 0x8⟩
/-- AMBIG with `sync` clean and `rnw` indeterminate, `0x1x` (R63, R111). -/
def rowAmbigRnw : RawRow := ⟨0xA, 0x2⟩

/-- The six `RAW` rows in table order. -/
def rawRows : List RawRow := [rowFetch, rowRead, rowWrite, rowAmbigInconsistent, rowAmbigSync, rowAmbigRnw]

/-- Level E decoding of a raw cycle. The last arm is `rowAmbigRnw`: what no other row matches, it matches (R63). -/
def decodeRaw (ts : Timestamp) (w : RawWord) : Instr :=
  let code : BitVec 4 := w.extractLsb' 0 4
  let c := rawCycle ts w
  if rowFetch.hits code then .fetch c
  else if rowRead.hits code then .read c
  else if rowWrite.hits code then .write c
  else if rowAmbigInconsistent.hits code then .ambigInconsistent c
  else if rowAmbigSync.hits code then .ambigSync (rawSync w) (rawRnw w) c
  else .ambigRnw (rawSync w) (rawRnw w) c

/-- Level E decoding of a port sample: the event acted on first and the sample that stays to be presented after it.
Reset wins and drops the others; a raw cycle leaves a simultaneous end-of-stream for the next step (R63, R167). -/
def decode (p : PortSample) : Except DecodeError (Instr × Option PortSample) :=
  if p.rst then .ok (.reset p.cfgVariant p.cfgStrict, none)
  else if p.inValid then .ok (decodeRaw p.inTs p.inRaw, if p.inEos then some { p with inValid := false } else none)
  else if p.inEos then .ok (.eos, none)
  else .error .nothingPresented

/-! ### Level T: the target opcode of a fetch cycle (R50, R70, R79) -/

/-- Rows `00` to `0F` of spec/opcode_table.json, extended variant. -/
def opcodeRow0 : List (OpFetch → Instr) :=
  [.brkImp, .oraIzx, .unk02, .unknown 0x03, .tsbZp, .oraZp, .aslZp, .unknown 0x07,
   .phpImp, .oraImm, .aslAcc, .unknown 0x0B, .tsbAbs, .oraAbs, .aslAbs, .unknown 0x0F]

/-- Rows `10` to `1F` of spec/opcode_table.json, extended variant. -/
def opcodeRow1 : List (OpFetch → Instr) :=
  [.bplRel, .oraIzy, .oraIzp, .unknown 0x13, .trbZp, .oraZpx, .aslZpx, .unknown 0x17,
   .clcImp, .oraAby, .incAcc, .unknown 0x1B, .trbAbs, .oraAbx, .aslAbx, .unknown 0x1F]

/-- Rows `20` to `2F` of spec/opcode_table.json, extended variant. -/
def opcodeRow2 : List (OpFetch → Instr) :=
  [.jsrAbs, .andIzx, .unknown 0x22, .unknown 0x23, .bitZp, .andZp, .rolZp, .unknown 0x27,
   .plpImp, .andImm, .rolAcc, .unknown 0x2B, .bitAbs, .andAbs, .rolAbs, .unknown 0x2F]

/-- Rows `30` to `3F` of spec/opcode_table.json, extended variant. -/
def opcodeRow3 : List (OpFetch → Instr) :=
  [.bmiRel, .andIzy, .andIzp, .unknown 0x33, .bitZpx, .andZpx, .rolZpx, .unknown 0x37,
   .secImp, .andAby, .decAcc, .unknown 0x3B, .bitAbx, .andAbx, .rolAbx, .unknown 0x3F]

/-- Rows `40` to `4F` of spec/opcode_table.json, extended variant. -/
def opcodeRow4 : List (OpFetch → Instr) :=
  [.rtiImp, .eorIzx, .unknown 0x42, .unknown 0x43, .unknown 0x44, .eorZp, .lsrZp, .unknown 0x47,
   .phaImp, .eorImm, .lsrAcc, .unknown 0x4B, .jmpAbs, .eorAbs, .lsrAbs, .unknown 0x4F]

/-- Rows `50` to `5F` of spec/opcode_table.json, extended variant. -/
def opcodeRow5 : List (OpFetch → Instr) :=
  [.bvcRel, .eorIzy, .eorIzp, .unknown 0x53, .unknown 0x54, .eorZpx, .lsrZpx, .unknown 0x57,
   .cliImp, .eorAby, .phyImp, .unknown 0x5B, .unknown 0x5C, .eorAbx, .lsrAbx, .unknown 0x5F]

/-- Rows `60` to `6F` of spec/opcode_table.json, extended variant. -/
def opcodeRow6 : List (OpFetch → Instr) :=
  [.rtsImp, .adcIzx, .unknown 0x62, .unknown 0x63, .stzZp, .adcZp, .rorZp, .unknown 0x67,
   .plaImp, .adcImm, .rorAcc, .unknown 0x6B, .jmpInd, .adcAbs, .rorAbs, .unknown 0x6F]

/-- Rows `70` to `7F` of spec/opcode_table.json, extended variant. -/
def opcodeRow7 : List (OpFetch → Instr) :=
  [.bvsRel, .adcIzy, .adcIzp, .unknown 0x73, .stzZpx, .adcZpx, .rorZpx, .unknown 0x77,
   .seiImp, .adcAby, .plyImp, .unknown 0x7B, .jmpIax, .adcAbx, .rorAbx, .unknown 0x7F]

/-- Rows `80` to `8F` of spec/opcode_table.json, extended variant. -/
def opcodeRow8 : List (OpFetch → Instr) :=
  [.braRel, .staIzx, .unknown 0x82, .unknown 0x83, .styZp, .staZp, .stxZp, .unknown 0x87,
   .deyImp, .bitImm, .txaImp, .unknown 0x8B, .styAbs, .staAbs, .stxAbs, .unknown 0x8F]

/-- Rows `90` to `9F` of spec/opcode_table.json, extended variant. -/
def opcodeRow9 : List (OpFetch → Instr) :=
  [.bccRel, .staIzy, .staIzp, .unknown 0x93, .styZpx, .staZpx, .stxZpy, .unknown 0x97,
   .tyaImp, .staAby, .txsImp, .unknown 0x9B, .stzAbs, .staAbx, .stzAbx, .unknown 0x9F]

/-- Rows `A0` to `AF` of spec/opcode_table.json, extended variant. -/
def opcodeRowA : List (OpFetch → Instr) :=
  [.ldyImm, .ldaIzx, .ldxImm, .unknown 0xA3, .ldyZp, .ldaZp, .ldxZp, .unknown 0xA7,
   .tayImp, .ldaImm, .taxImp, .unknown 0xAB, .ldyAbs, .ldaAbs, .ldxAbs, .unknown 0xAF]

/-- Rows `B0` to `BF` of spec/opcode_table.json, extended variant. -/
def opcodeRowB : List (OpFetch → Instr) :=
  [.bcsRel, .ldaIzy, .ldaIzp, .unknown 0xB3, .ldyZpx, .ldaZpx, .ldxZpy, .unknown 0xB7,
   .clvImp, .ldaAby, .tsxImp, .unknown 0xBB, .ldyAbx, .ldaAbx, .ldxAby, .unknown 0xBF]

/-- Rows `C0` to `CF` of spec/opcode_table.json, extended variant. -/
def opcodeRowC : List (OpFetch → Instr) :=
  [.cpyImm, .cmpIzx, .unknown 0xC2, .unknown 0xC3, .cpyZp, .cmpZp, .decZp, .unknown 0xC7,
   .inyImp, .cmpImm, .dexImp, .unknown 0xCB, .cpyAbs, .cmpAbs, .decAbs, .unknown 0xCF]

/-- Rows `D0` to `DF` of spec/opcode_table.json, extended variant. -/
def opcodeRowD : List (OpFetch → Instr) :=
  [.bneRel, .cmpIzy, .cmpIzp, .unknown 0xD3, .unknown 0xD4, .cmpZpx, .decZpx, .unknown 0xD7,
   .cldImp, .cmpAby, .phxImp, .unknown 0xDB, .unknown 0xDC, .cmpAbx, .decAbx, .unknown 0xDF]

/-- Rows `E0` to `EF` of spec/opcode_table.json, extended variant. -/
def opcodeRowE : List (OpFetch → Instr) :=
  [.cpxImm, .sbcIzx, .unknown 0xE2, .unknown 0xE3, .cpxZp, .sbcZp, .incZp, .unknown 0xE7,
   .inxImp, .sbcImm, .nopImp, .unknown 0xEB, .cpxAbs, .sbcAbs, .incAbs, .unknown 0xEF]

/-- Rows `F0` to `FF` of spec/opcode_table.json, extended variant. -/
def opcodeRowF : List (OpFetch → Instr) :=
  [.beqRel, .sbcIzy, .sbcIzp, .unknown 0xF3, .unknown 0xF4, .sbcZpx, .incZpx, .unknown 0xF7,
   .sedImp, .sbcAby, .plxImp, .unknown 0xFB, .unknown 0xFC, .sbcAbx, .incAbx, .unknown 0xFF]

/-- The extended variant's rows by high nibble. -/
def extendedRows : List (List (OpFetch → Instr)) :=
  [opcodeRow0, opcodeRow1, opcodeRow2, opcodeRow3, opcodeRow4, opcodeRow5, opcodeRow6, opcodeRow7,
   opcodeRow8, opcodeRow9, opcodeRowA, opcodeRowB, opcodeRowC, opcodeRowD, opcodeRowE, opcodeRowF]

/-- The 27 rows of the base variant that differ (mask `0x1FF`, match `0x0bb`; R59). -/
def baseOverrides : List (Byte × (OpFetch → Instr)) :=
  [(0x04, .unkBase04), (0x0C, .unkBase0C), (0x12, .unkBase12), (0x14, .unkBase14), (0x1A, .unkBase1A),
   (0x1C, .unkBase1C), (0x32, .unkBase32), (0x34, .unkBase34), (0x3A, .unkBase3A), (0x3C, .unkBase3C),
   (0x52, .unkBase52), (0x5A, .unkBase5A), (0x64, .unkBase64), (0x72, .unkBase72), (0x74, .unkBase74),
   (0x7A, .unkBase7A), (0x7C, .unkBase7C), (0x80, .unkBase80), (0x89, .unkBase89), (0x92, .unkBase92),
   (0x9C, .unkBase9C), (0x9E, .unkBase9E), (0xB2, .unkBaseB2), (0xD2, .unkBaseD2), (0xDA, .unkBaseDA),
   (0xF2, .unkBaseF2), (0xFA, .unkBaseFA)]

/-- The extended variant's row of an opcode. The two defaults are never reached: each list has 16 entries. -/
def decodeExtended (op : Byte) (f : OpFetch) : Instr :=
  ((extendedRows.getD (op.toNat / 16) []).getD (op.toNat % 16) .unk02) f

/-- The row of `spec/opcode_table.json` that the 9-bit word `cfg_variant ++ opcode` matches (R58, R59). -/
def decodeTarget (v : BitVec 1) (op : Byte) (f : OpFetch) : Instr :=
  if v = 0 then
    match baseOverrides.find? (fun e => e.1 == op) with
    | some e => e.2 f
    | none => decodeExtended op f
  else decodeExtended op f

/-- Level T decoding: the target opcode row of the opcode fetch that a sample presents, under variant `v`. -/
def decodeOpcode (v : BitVec 1) (p : PortSample) : Except DecodeError Instr :=
  match decode p with
  | .ok (.fetch c, _) => .ok (decodeTarget v c.data ⟨c.ts, c.addr⟩)
  | .ok _ => .error .notOpcodeFetch
  | .error e => .error e

/-! ### The rows as data -/

/-- Which words `cfg_variant ++ opcode` a level T row matches (its mask). -/
inductive RowVariant where
  | both
  | extendedOnly
  | baseOnly
  deriving DecidableEq, Repr

/-- Is `v` a value of the row's variant bit? -/
def RowVariant.admits : RowVariant → BitVec 1 → Bool
  | .both, _ => true
  | .extendedOnly, v => v == 1
  | .baseOnly, v => v == 0

/-- A level T row of spec/opcode_table.json: opcode byte, variants, mnemonic and mode. -/
structure TargetRow where
  opcode   : Byte
  variants : RowVariant
  desc     : Descriptor
  deriving DecidableEq, Repr

/-- An instruction seen as its row: level E by kind, level T as row data and fetch. -/
inductive View where
  | fetch (c : Cycle)
  | read (c : Cycle)
  | write (c : Cycle)
  | ambigInconsistent (c : Cycle)
  | ambigSync (sync rnw : BitVec 2) (c : Cycle)
  | ambigRnw (sync rnw : BitVec 2) (c : Cycle)
  | eos
  | reset (variant strict : BitVec 1)
  | target (row : TargetRow) (f : OpFetch)
  deriving DecidableEq, Repr

/-- Each constructor's row, as spec/opcode_table.json gives it. -/
def Instr.view : Instr → View
  | .fetch c => .fetch c
  | .read c => .read c
  | .write c => .write c
  | .ambigInconsistent c => .ambigInconsistent c
  | .ambigSync s r c => .ambigSync s r c
  | .ambigRnw s r c => .ambigRnw s r c
  | .eos => .eos
  | .reset v s => .reset v s
  | .brkImp f => .target ⟨0x00, .both, ⟨mn 'B' 'R' 'K', .implied⟩⟩ f
  | .oraIzx f => .target ⟨0x01, .both, ⟨mn 'O' 'R' 'A', .indexedIndirect⟩⟩ f
  | .unk02 f => .target ⟨0x02, .both, ⟨mn '?' '?' '?', .implied⟩⟩ f
  | .tsbZp f => .target ⟨0x04, .extendedOnly, ⟨mn 'T' 'S' 'B', .zeroPage⟩⟩ f
  | .oraZp f => .target ⟨0x05, .both, ⟨mn 'O' 'R' 'A', .zeroPage⟩⟩ f
  | .aslZp f => .target ⟨0x06, .both, ⟨mn 'A' 'S' 'L', .zeroPage⟩⟩ f
  | .phpImp f => .target ⟨0x08, .both, ⟨mn 'P' 'H' 'P', .implied⟩⟩ f
  | .oraImm f => .target ⟨0x09, .both, ⟨mn 'O' 'R' 'A', .immediate⟩⟩ f
  | .aslAcc f => .target ⟨0x0A, .both, ⟨mn 'A' 'S' 'L', .impliedAccumulator⟩⟩ f
  | .tsbAbs f => .target ⟨0x0C, .extendedOnly, ⟨mn 'T' 'S' 'B', .absolute⟩⟩ f
  | .oraAbs f => .target ⟨0x0D, .both, ⟨mn 'O' 'R' 'A', .absolute⟩⟩ f
  | .aslAbs f => .target ⟨0x0E, .both, ⟨mn 'A' 'S' 'L', .absolute⟩⟩ f
  | .bplRel f => .target ⟨0x10, .both, ⟨mn 'B' 'P' 'L', .relative⟩⟩ f
  | .oraIzy f => .target ⟨0x11, .both, ⟨mn 'O' 'R' 'A', .indirectIndexed⟩⟩ f
  | .oraIzp f => .target ⟨0x12, .extendedOnly, ⟨mn 'O' 'R' 'A', .indirect⟩⟩ f
  | .trbZp f => .target ⟨0x14, .extendedOnly, ⟨mn 'T' 'R' 'B', .zeroPage⟩⟩ f
  | .oraZpx f => .target ⟨0x15, .both, ⟨mn 'O' 'R' 'A', .zeroPageX⟩⟩ f
  | .aslZpx f => .target ⟨0x16, .both, ⟨mn 'A' 'S' 'L', .zeroPageX⟩⟩ f
  | .clcImp f => .target ⟨0x18, .both, ⟨mn 'C' 'L' 'C', .implied⟩⟩ f
  | .oraAby f => .target ⟨0x19, .both, ⟨mn 'O' 'R' 'A', .absoluteY⟩⟩ f
  | .incAcc f => .target ⟨0x1A, .extendedOnly, ⟨mn 'I' 'N' 'C', .impliedAccumulator⟩⟩ f
  | .trbAbs f => .target ⟨0x1C, .extendedOnly, ⟨mn 'T' 'R' 'B', .absolute⟩⟩ f
  | .oraAbx f => .target ⟨0x1D, .both, ⟨mn 'O' 'R' 'A', .absoluteX⟩⟩ f
  | .aslAbx f => .target ⟨0x1E, .both, ⟨mn 'A' 'S' 'L', .absoluteX⟩⟩ f
  | .jsrAbs f => .target ⟨0x20, .both, ⟨mn 'J' 'S' 'R', .absolute⟩⟩ f
  | .andIzx f => .target ⟨0x21, .both, ⟨mn 'A' 'N' 'D', .indexedIndirect⟩⟩ f
  | .bitZp f => .target ⟨0x24, .both, ⟨mn 'B' 'I' 'T', .zeroPage⟩⟩ f
  | .andZp f => .target ⟨0x25, .both, ⟨mn 'A' 'N' 'D', .zeroPage⟩⟩ f
  | .rolZp f => .target ⟨0x26, .both, ⟨mn 'R' 'O' 'L', .zeroPage⟩⟩ f
  | .plpImp f => .target ⟨0x28, .both, ⟨mn 'P' 'L' 'P', .implied⟩⟩ f
  | .andImm f => .target ⟨0x29, .both, ⟨mn 'A' 'N' 'D', .immediate⟩⟩ f
  | .rolAcc f => .target ⟨0x2A, .both, ⟨mn 'R' 'O' 'L', .impliedAccumulator⟩⟩ f
  | .bitAbs f => .target ⟨0x2C, .both, ⟨mn 'B' 'I' 'T', .absolute⟩⟩ f
  | .andAbs f => .target ⟨0x2D, .both, ⟨mn 'A' 'N' 'D', .absolute⟩⟩ f
  | .rolAbs f => .target ⟨0x2E, .both, ⟨mn 'R' 'O' 'L', .absolute⟩⟩ f
  | .bmiRel f => .target ⟨0x30, .both, ⟨mn 'B' 'M' 'I', .relative⟩⟩ f
  | .andIzy f => .target ⟨0x31, .both, ⟨mn 'A' 'N' 'D', .indirectIndexed⟩⟩ f
  | .andIzp f => .target ⟨0x32, .extendedOnly, ⟨mn 'A' 'N' 'D', .indirect⟩⟩ f
  | .bitZpx f => .target ⟨0x34, .extendedOnly, ⟨mn 'B' 'I' 'T', .zeroPageX⟩⟩ f
  | .andZpx f => .target ⟨0x35, .both, ⟨mn 'A' 'N' 'D', .zeroPageX⟩⟩ f
  | .rolZpx f => .target ⟨0x36, .both, ⟨mn 'R' 'O' 'L', .zeroPageX⟩⟩ f
  | .secImp f => .target ⟨0x38, .both, ⟨mn 'S' 'E' 'C', .implied⟩⟩ f
  | .andAby f => .target ⟨0x39, .both, ⟨mn 'A' 'N' 'D', .absoluteY⟩⟩ f
  | .decAcc f => .target ⟨0x3A, .extendedOnly, ⟨mn 'D' 'E' 'C', .impliedAccumulator⟩⟩ f
  | .bitAbx f => .target ⟨0x3C, .extendedOnly, ⟨mn 'B' 'I' 'T', .absoluteX⟩⟩ f
  | .andAbx f => .target ⟨0x3D, .both, ⟨mn 'A' 'N' 'D', .absoluteX⟩⟩ f
  | .rolAbx f => .target ⟨0x3E, .both, ⟨mn 'R' 'O' 'L', .absoluteX⟩⟩ f
  | .rtiImp f => .target ⟨0x40, .both, ⟨mn 'R' 'T' 'I', .implied⟩⟩ f
  | .eorIzx f => .target ⟨0x41, .both, ⟨mn 'E' 'O' 'R', .indexedIndirect⟩⟩ f
  | .eorZp f => .target ⟨0x45, .both, ⟨mn 'E' 'O' 'R', .zeroPage⟩⟩ f
  | .lsrZp f => .target ⟨0x46, .both, ⟨mn 'L' 'S' 'R', .zeroPage⟩⟩ f
  | .phaImp f => .target ⟨0x48, .both, ⟨mn 'P' 'H' 'A', .implied⟩⟩ f
  | .eorImm f => .target ⟨0x49, .both, ⟨mn 'E' 'O' 'R', .immediate⟩⟩ f
  | .lsrAcc f => .target ⟨0x4A, .both, ⟨mn 'L' 'S' 'R', .impliedAccumulator⟩⟩ f
  | .jmpAbs f => .target ⟨0x4C, .both, ⟨mn 'J' 'M' 'P', .absolute⟩⟩ f
  | .eorAbs f => .target ⟨0x4D, .both, ⟨mn 'E' 'O' 'R', .absolute⟩⟩ f
  | .lsrAbs f => .target ⟨0x4E, .both, ⟨mn 'L' 'S' 'R', .absolute⟩⟩ f
  | .bvcRel f => .target ⟨0x50, .both, ⟨mn 'B' 'V' 'C', .relative⟩⟩ f
  | .eorIzy f => .target ⟨0x51, .both, ⟨mn 'E' 'O' 'R', .indirectIndexed⟩⟩ f
  | .eorIzp f => .target ⟨0x52, .extendedOnly, ⟨mn 'E' 'O' 'R', .indirect⟩⟩ f
  | .eorZpx f => .target ⟨0x55, .both, ⟨mn 'E' 'O' 'R', .zeroPageX⟩⟩ f
  | .lsrZpx f => .target ⟨0x56, .both, ⟨mn 'L' 'S' 'R', .zeroPageX⟩⟩ f
  | .cliImp f => .target ⟨0x58, .both, ⟨mn 'C' 'L' 'I', .implied⟩⟩ f
  | .eorAby f => .target ⟨0x59, .both, ⟨mn 'E' 'O' 'R', .absoluteY⟩⟩ f
  | .phyImp f => .target ⟨0x5A, .extendedOnly, ⟨mn 'P' 'H' 'Y', .implied⟩⟩ f
  | .eorAbx f => .target ⟨0x5D, .both, ⟨mn 'E' 'O' 'R', .absoluteX⟩⟩ f
  | .lsrAbx f => .target ⟨0x5E, .both, ⟨mn 'L' 'S' 'R', .absoluteX⟩⟩ f
  | .rtsImp f => .target ⟨0x60, .both, ⟨mn 'R' 'T' 'S', .implied⟩⟩ f
  | .adcIzx f => .target ⟨0x61, .both, ⟨mn 'A' 'D' 'C', .indexedIndirect⟩⟩ f
  | .stzZp f => .target ⟨0x64, .extendedOnly, ⟨mn 'S' 'T' 'Z', .zeroPage⟩⟩ f
  | .adcZp f => .target ⟨0x65, .both, ⟨mn 'A' 'D' 'C', .zeroPage⟩⟩ f
  | .rorZp f => .target ⟨0x66, .both, ⟨mn 'R' 'O' 'R', .zeroPage⟩⟩ f
  | .plaImp f => .target ⟨0x68, .both, ⟨mn 'P' 'L' 'A', .implied⟩⟩ f
  | .adcImm f => .target ⟨0x69, .both, ⟨mn 'A' 'D' 'C', .immediate⟩⟩ f
  | .rorAcc f => .target ⟨0x6A, .both, ⟨mn 'R' 'O' 'R', .impliedAccumulator⟩⟩ f
  | .jmpInd f => .target ⟨0x6C, .both, ⟨mn 'J' 'M' 'P', .absoluteIndirect16⟩⟩ f
  | .adcAbs f => .target ⟨0x6D, .both, ⟨mn 'A' 'D' 'C', .absolute⟩⟩ f
  | .rorAbs f => .target ⟨0x6E, .both, ⟨mn 'R' 'O' 'R', .absolute⟩⟩ f
  | .bvsRel f => .target ⟨0x70, .both, ⟨mn 'B' 'V' 'S', .relative⟩⟩ f
  | .adcIzy f => .target ⟨0x71, .both, ⟨mn 'A' 'D' 'C', .indirectIndexed⟩⟩ f
  | .adcIzp f => .target ⟨0x72, .extendedOnly, ⟨mn 'A' 'D' 'C', .indirect⟩⟩ f
  | .stzZpx f => .target ⟨0x74, .extendedOnly, ⟨mn 'S' 'T' 'Z', .zeroPageX⟩⟩ f
  | .adcZpx f => .target ⟨0x75, .both, ⟨mn 'A' 'D' 'C', .zeroPageX⟩⟩ f
  | .rorZpx f => .target ⟨0x76, .both, ⟨mn 'R' 'O' 'R', .zeroPageX⟩⟩ f
  | .seiImp f => .target ⟨0x78, .both, ⟨mn 'S' 'E' 'I', .implied⟩⟩ f
  | .adcAby f => .target ⟨0x79, .both, ⟨mn 'A' 'D' 'C', .absoluteY⟩⟩ f
  | .plyImp f => .target ⟨0x7A, .extendedOnly, ⟨mn 'P' 'L' 'Y', .implied⟩⟩ f
  | .jmpIax f => .target ⟨0x7C, .extendedOnly, ⟨mn 'J' 'M' 'P', .absoluteIndirectX⟩⟩ f
  | .adcAbx f => .target ⟨0x7D, .both, ⟨mn 'A' 'D' 'C', .absoluteX⟩⟩ f
  | .rorAbx f => .target ⟨0x7E, .both, ⟨mn 'R' 'O' 'R', .absoluteX⟩⟩ f
  | .braRel f => .target ⟨0x80, .extendedOnly, ⟨mn 'B' 'R' 'A', .relative⟩⟩ f
  | .staIzx f => .target ⟨0x81, .both, ⟨mn 'S' 'T' 'A', .indexedIndirect⟩⟩ f
  | .styZp f => .target ⟨0x84, .both, ⟨mn 'S' 'T' 'Y', .zeroPage⟩⟩ f
  | .staZp f => .target ⟨0x85, .both, ⟨mn 'S' 'T' 'A', .zeroPage⟩⟩ f
  | .stxZp f => .target ⟨0x86, .both, ⟨mn 'S' 'T' 'X', .zeroPage⟩⟩ f
  | .deyImp f => .target ⟨0x88, .both, ⟨mn 'D' 'E' 'Y', .implied⟩⟩ f
  | .bitImm f => .target ⟨0x89, .extendedOnly, ⟨mn 'B' 'I' 'T', .immediate⟩⟩ f
  | .txaImp f => .target ⟨0x8A, .both, ⟨mn 'T' 'X' 'A', .implied⟩⟩ f
  | .styAbs f => .target ⟨0x8C, .both, ⟨mn 'S' 'T' 'Y', .absolute⟩⟩ f
  | .staAbs f => .target ⟨0x8D, .both, ⟨mn 'S' 'T' 'A', .absolute⟩⟩ f
  | .stxAbs f => .target ⟨0x8E, .both, ⟨mn 'S' 'T' 'X', .absolute⟩⟩ f
  | .bccRel f => .target ⟨0x90, .both, ⟨mn 'B' 'C' 'C', .relative⟩⟩ f
  | .staIzy f => .target ⟨0x91, .both, ⟨mn 'S' 'T' 'A', .indirectIndexed⟩⟩ f
  | .staIzp f => .target ⟨0x92, .extendedOnly, ⟨mn 'S' 'T' 'A', .indirect⟩⟩ f
  | .styZpx f => .target ⟨0x94, .both, ⟨mn 'S' 'T' 'Y', .zeroPageX⟩⟩ f
  | .staZpx f => .target ⟨0x95, .both, ⟨mn 'S' 'T' 'A', .zeroPageX⟩⟩ f
  | .stxZpy f => .target ⟨0x96, .both, ⟨mn 'S' 'T' 'X', .zeroPageY⟩⟩ f
  | .tyaImp f => .target ⟨0x98, .both, ⟨mn 'T' 'Y' 'A', .implied⟩⟩ f
  | .staAby f => .target ⟨0x99, .both, ⟨mn 'S' 'T' 'A', .absoluteY⟩⟩ f
  | .txsImp f => .target ⟨0x9A, .both, ⟨mn 'T' 'X' 'S', .implied⟩⟩ f
  | .stzAbs f => .target ⟨0x9C, .extendedOnly, ⟨mn 'S' 'T' 'Z', .absolute⟩⟩ f
  | .staAbx f => .target ⟨0x9D, .both, ⟨mn 'S' 'T' 'A', .absoluteX⟩⟩ f
  | .stzAbx f => .target ⟨0x9E, .extendedOnly, ⟨mn 'S' 'T' 'Z', .absoluteX⟩⟩ f
  | .ldyImm f => .target ⟨0xA0, .both, ⟨mn 'L' 'D' 'Y', .immediate⟩⟩ f
  | .ldaIzx f => .target ⟨0xA1, .both, ⟨mn 'L' 'D' 'A', .indexedIndirect⟩⟩ f
  | .ldxImm f => .target ⟨0xA2, .both, ⟨mn 'L' 'D' 'X', .immediate⟩⟩ f
  | .ldyZp f => .target ⟨0xA4, .both, ⟨mn 'L' 'D' 'Y', .zeroPage⟩⟩ f
  | .ldaZp f => .target ⟨0xA5, .both, ⟨mn 'L' 'D' 'A', .zeroPage⟩⟩ f
  | .ldxZp f => .target ⟨0xA6, .both, ⟨mn 'L' 'D' 'X', .zeroPage⟩⟩ f
  | .tayImp f => .target ⟨0xA8, .both, ⟨mn 'T' 'A' 'Y', .implied⟩⟩ f
  | .ldaImm f => .target ⟨0xA9, .both, ⟨mn 'L' 'D' 'A', .immediate⟩⟩ f
  | .taxImp f => .target ⟨0xAA, .both, ⟨mn 'T' 'A' 'X', .implied⟩⟩ f
  | .ldyAbs f => .target ⟨0xAC, .both, ⟨mn 'L' 'D' 'Y', .absolute⟩⟩ f
  | .ldaAbs f => .target ⟨0xAD, .both, ⟨mn 'L' 'D' 'A', .absolute⟩⟩ f
  | .ldxAbs f => .target ⟨0xAE, .both, ⟨mn 'L' 'D' 'X', .absolute⟩⟩ f
  | .bcsRel f => .target ⟨0xB0, .both, ⟨mn 'B' 'C' 'S', .relative⟩⟩ f
  | .ldaIzy f => .target ⟨0xB1, .both, ⟨mn 'L' 'D' 'A', .indirectIndexed⟩⟩ f
  | .ldaIzp f => .target ⟨0xB2, .extendedOnly, ⟨mn 'L' 'D' 'A', .indirect⟩⟩ f
  | .ldyZpx f => .target ⟨0xB4, .both, ⟨mn 'L' 'D' 'Y', .zeroPageX⟩⟩ f
  | .ldaZpx f => .target ⟨0xB5, .both, ⟨mn 'L' 'D' 'A', .zeroPageX⟩⟩ f
  | .ldxZpy f => .target ⟨0xB6, .both, ⟨mn 'L' 'D' 'X', .zeroPageY⟩⟩ f
  | .clvImp f => .target ⟨0xB8, .both, ⟨mn 'C' 'L' 'V', .implied⟩⟩ f
  | .ldaAby f => .target ⟨0xB9, .both, ⟨mn 'L' 'D' 'A', .absoluteY⟩⟩ f
  | .tsxImp f => .target ⟨0xBA, .both, ⟨mn 'T' 'S' 'X', .implied⟩⟩ f
  | .ldyAbx f => .target ⟨0xBC, .both, ⟨mn 'L' 'D' 'Y', .absoluteX⟩⟩ f
  | .ldaAbx f => .target ⟨0xBD, .both, ⟨mn 'L' 'D' 'A', .absoluteX⟩⟩ f
  | .ldxAby f => .target ⟨0xBE, .both, ⟨mn 'L' 'D' 'X', .absoluteY⟩⟩ f
  | .cpyImm f => .target ⟨0xC0, .both, ⟨mn 'C' 'P' 'Y', .immediate⟩⟩ f
  | .cmpIzx f => .target ⟨0xC1, .both, ⟨mn 'C' 'M' 'P', .indexedIndirect⟩⟩ f
  | .cpyZp f => .target ⟨0xC4, .both, ⟨mn 'C' 'P' 'Y', .zeroPage⟩⟩ f
  | .cmpZp f => .target ⟨0xC5, .both, ⟨mn 'C' 'M' 'P', .zeroPage⟩⟩ f
  | .decZp f => .target ⟨0xC6, .both, ⟨mn 'D' 'E' 'C', .zeroPage⟩⟩ f
  | .inyImp f => .target ⟨0xC8, .both, ⟨mn 'I' 'N' 'Y', .implied⟩⟩ f
  | .cmpImm f => .target ⟨0xC9, .both, ⟨mn 'C' 'M' 'P', .immediate⟩⟩ f
  | .dexImp f => .target ⟨0xCA, .both, ⟨mn 'D' 'E' 'X', .implied⟩⟩ f
  | .cpyAbs f => .target ⟨0xCC, .both, ⟨mn 'C' 'P' 'Y', .absolute⟩⟩ f
  | .cmpAbs f => .target ⟨0xCD, .both, ⟨mn 'C' 'M' 'P', .absolute⟩⟩ f
  | .decAbs f => .target ⟨0xCE, .both, ⟨mn 'D' 'E' 'C', .absolute⟩⟩ f
  | .bneRel f => .target ⟨0xD0, .both, ⟨mn 'B' 'N' 'E', .relative⟩⟩ f
  | .cmpIzy f => .target ⟨0xD1, .both, ⟨mn 'C' 'M' 'P', .indirectIndexed⟩⟩ f
  | .cmpIzp f => .target ⟨0xD2, .extendedOnly, ⟨mn 'C' 'M' 'P', .indirect⟩⟩ f
  | .cmpZpx f => .target ⟨0xD5, .both, ⟨mn 'C' 'M' 'P', .zeroPageX⟩⟩ f
  | .decZpx f => .target ⟨0xD6, .both, ⟨mn 'D' 'E' 'C', .zeroPageX⟩⟩ f
  | .cldImp f => .target ⟨0xD8, .both, ⟨mn 'C' 'L' 'D', .implied⟩⟩ f
  | .cmpAby f => .target ⟨0xD9, .both, ⟨mn 'C' 'M' 'P', .absoluteY⟩⟩ f
  | .phxImp f => .target ⟨0xDA, .extendedOnly, ⟨mn 'P' 'H' 'X', .implied⟩⟩ f
  | .cmpAbx f => .target ⟨0xDD, .both, ⟨mn 'C' 'M' 'P', .absoluteX⟩⟩ f
  | .decAbx f => .target ⟨0xDE, .both, ⟨mn 'D' 'E' 'C', .absoluteX⟩⟩ f
  | .cpxImm f => .target ⟨0xE0, .both, ⟨mn 'C' 'P' 'X', .immediate⟩⟩ f
  | .sbcIzx f => .target ⟨0xE1, .both, ⟨mn 'S' 'B' 'C', .indexedIndirect⟩⟩ f
  | .cpxZp f => .target ⟨0xE4, .both, ⟨mn 'C' 'P' 'X', .zeroPage⟩⟩ f
  | .sbcZp f => .target ⟨0xE5, .both, ⟨mn 'S' 'B' 'C', .zeroPage⟩⟩ f
  | .incZp f => .target ⟨0xE6, .both, ⟨mn 'I' 'N' 'C', .zeroPage⟩⟩ f
  | .inxImp f => .target ⟨0xE8, .both, ⟨mn 'I' 'N' 'X', .implied⟩⟩ f
  | .sbcImm f => .target ⟨0xE9, .both, ⟨mn 'S' 'B' 'C', .immediate⟩⟩ f
  | .nopImp f => .target ⟨0xEA, .both, ⟨mn 'N' 'O' 'P', .implied⟩⟩ f
  | .cpxAbs f => .target ⟨0xEC, .both, ⟨mn 'C' 'P' 'X', .absolute⟩⟩ f
  | .sbcAbs f => .target ⟨0xED, .both, ⟨mn 'S' 'B' 'C', .absolute⟩⟩ f
  | .incAbs f => .target ⟨0xEE, .both, ⟨mn 'I' 'N' 'C', .absolute⟩⟩ f
  | .beqRel f => .target ⟨0xF0, .both, ⟨mn 'B' 'E' 'Q', .relative⟩⟩ f
  | .sbcIzy f => .target ⟨0xF1, .both, ⟨mn 'S' 'B' 'C', .indirectIndexed⟩⟩ f
  | .sbcIzp f => .target ⟨0xF2, .extendedOnly, ⟨mn 'S' 'B' 'C', .indirect⟩⟩ f
  | .sbcZpx f => .target ⟨0xF5, .both, ⟨mn 'S' 'B' 'C', .zeroPageX⟩⟩ f
  | .incZpx f => .target ⟨0xF6, .both, ⟨mn 'I' 'N' 'C', .zeroPageX⟩⟩ f
  | .sedImp f => .target ⟨0xF8, .both, ⟨mn 'S' 'E' 'D', .implied⟩⟩ f
  | .sbcAby f => .target ⟨0xF9, .both, ⟨mn 'S' 'B' 'C', .absoluteY⟩⟩ f
  | .plxImp f => .target ⟨0xFA, .extendedOnly, ⟨mn 'P' 'L' 'X', .implied⟩⟩ f
  | .sbcAbx f => .target ⟨0xFD, .both, ⟨mn 'S' 'B' 'C', .absoluteX⟩⟩ f
  | .incAbx f => .target ⟨0xFE, .both, ⟨mn 'I' 'N' 'C', .absoluteX⟩⟩ f
  | .unkBase04 f => .target ⟨0x04, .baseOnly, ⟨mn '?' '?' '?', .implied⟩⟩ f
  | .unkBase0C f => .target ⟨0x0C, .baseOnly, ⟨mn '?' '?' '?', .implied⟩⟩ f
  | .unkBase12 f => .target ⟨0x12, .baseOnly, ⟨mn '?' '?' '?', .implied⟩⟩ f
  | .unkBase14 f => .target ⟨0x14, .baseOnly, ⟨mn '?' '?' '?', .implied⟩⟩ f
  | .unkBase1A f => .target ⟨0x1A, .baseOnly, ⟨mn '?' '?' '?', .implied⟩⟩ f
  | .unkBase1C f => .target ⟨0x1C, .baseOnly, ⟨mn '?' '?' '?', .implied⟩⟩ f
  | .unkBase32 f => .target ⟨0x32, .baseOnly, ⟨mn '?' '?' '?', .implied⟩⟩ f
  | .unkBase34 f => .target ⟨0x34, .baseOnly, ⟨mn '?' '?' '?', .implied⟩⟩ f
  | .unkBase3A f => .target ⟨0x3A, .baseOnly, ⟨mn '?' '?' '?', .implied⟩⟩ f
  | .unkBase3C f => .target ⟨0x3C, .baseOnly, ⟨mn '?' '?' '?', .implied⟩⟩ f
  | .unkBase52 f => .target ⟨0x52, .baseOnly, ⟨mn '?' '?' '?', .implied⟩⟩ f
  | .unkBase5A f => .target ⟨0x5A, .baseOnly, ⟨mn '?' '?' '?', .implied⟩⟩ f
  | .unkBase64 f => .target ⟨0x64, .baseOnly, ⟨mn '?' '?' '?', .implied⟩⟩ f
  | .unkBase72 f => .target ⟨0x72, .baseOnly, ⟨mn '?' '?' '?', .implied⟩⟩ f
  | .unkBase74 f => .target ⟨0x74, .baseOnly, ⟨mn '?' '?' '?', .implied⟩⟩ f
  | .unkBase7A f => .target ⟨0x7A, .baseOnly, ⟨mn '?' '?' '?', .implied⟩⟩ f
  | .unkBase7C f => .target ⟨0x7C, .baseOnly, ⟨mn '?' '?' '?', .implied⟩⟩ f
  | .unkBase80 f => .target ⟨0x80, .baseOnly, ⟨mn '?' '?' '?', .implied⟩⟩ f
  | .unkBase89 f => .target ⟨0x89, .baseOnly, ⟨mn '?' '?' '?', .implied⟩⟩ f
  | .unkBase92 f => .target ⟨0x92, .baseOnly, ⟨mn '?' '?' '?', .implied⟩⟩ f
  | .unkBase9C f => .target ⟨0x9C, .baseOnly, ⟨mn '?' '?' '?', .implied⟩⟩ f
  | .unkBase9E f => .target ⟨0x9E, .baseOnly, ⟨mn '?' '?' '?', .implied⟩⟩ f
  | .unkBaseB2 f => .target ⟨0xB2, .baseOnly, ⟨mn '?' '?' '?', .implied⟩⟩ f
  | .unkBaseD2 f => .target ⟨0xD2, .baseOnly, ⟨mn '?' '?' '?', .implied⟩⟩ f
  | .unkBaseDA f => .target ⟨0xDA, .baseOnly, ⟨mn '?' '?' '?', .implied⟩⟩ f
  | .unkBaseF2 f => .target ⟨0xF2, .baseOnly, ⟨mn '?' '?' '?', .implied⟩⟩ f
  | .unkBaseFA f => .target ⟨0xFA, .baseOnly, ⟨mn '?' '?' '?', .implied⟩⟩ f
  | .unknown op f => .target ⟨op, .both, ⟨mn '?' '?' '?', .implied⟩⟩ f

/-- The opcodes of the 77 rows of R73 that `Instr.unknown` stands for: `"???"` under both variants, all but `0x02`. -/
def unknownOpcodes : List Byte :=
  [0x03, 0x07, 0x0B, 0x0F, 0x13, 0x17, 0x1B, 0x1F, 0x22, 0x23, 0x27, 0x2B, 0x2F, 0x33,
   0x37, 0x3B, 0x3F, 0x42, 0x43, 0x44, 0x47, 0x4B, 0x4F, 0x53, 0x54, 0x57, 0x5B, 0x5C,
   0x5F, 0x62, 0x63, 0x67, 0x6B, 0x6F, 0x73, 0x77, 0x7B, 0x7F, 0x82, 0x83, 0x87, 0x8B,
   0x8F, 0x93, 0x97, 0x9B, 0x9F, 0xA3, 0xA7, 0xAB, 0xAF, 0xB3, 0xB7, 0xBB, 0xBF, 0xC2,
   0xC3, 0xC7, 0xCB, 0xCF, 0xD3, 0xD4, 0xD7, 0xDB, 0xDC, 0xDF, 0xE2, 0xE3, 0xE7, 0xEB,
   0xEF, 0xF3, 0xF4, 0xF7, 0xFB, 0xFC, 0xFF]

/-! ### The encoder -/

/-- A sample that presents nothing. -/
def quietSample : PortSample := ⟨false, 0, 0, false, 0, 0, false⟩

/-- A sample that presents the raw cycle `c` with the given control-line codes. -/
def rawSample (c : Cycle) (sync rnw : BitVec 2) : PortSample :=
  { quietSample with inValid := true, inTs := c.ts, inRaw := packRaw c.addr c.data sync rnw }

/-- The control-line codes of the clean levels (R47). -/
def codeL : BitVec 2 := 0b00
def codeH : BitVec 2 := 0b01

/-- The sample that presents an instruction (R46, R61, R63); a target opcode is presented by its opcode-fetch cycle. -/
def encode (i : Instr) : PortSample :=
  match i.view with
  | .fetch c => rawSample c codeH codeH
  | .read c => rawSample c codeL codeH
  | .write c => rawSample c codeL codeL
  | .ambigInconsistent c => rawSample c codeH codeL
  | .ambigSync s r c => rawSample c s r
  | .ambigRnw s r c => rawSample c s r
  | .eos => { quietSample with inEos := true }
  | .reset v s => { quietSample with rst := true, cfgVariant := v, cfgStrict := s }
  | .target row f => rawSample (f.cycle row.opcode) codeH codeH

/-! ### The words of the opcode table (host interface) -/

/-- A word of spec/opcode_table.json, laid out for the block. -/
inductive TableWord where
  /-- a raw cycle word `in_raw` with timestamp 0 -/
  | raw (w : RawWord)
  /-- a target opcode, with the variant bit where the row has one -/
  | target (v : Option (BitVec 1)) (op : Byte)
  deriving DecidableEq, Repr

/-- The control codes of one byte that are themselves the match of a `RAW` row. Several rows of the table share these
words (format `RAW`, `PORT` and `OP1`/`OP2`); the block's own raw cycle is taken: log entry 8. -/
def rawRowWords : List Nat := [0x5, 0x1, 0x0, 0x4, 0x8, 0x2]

/-- How `nbits` and `w` are read: up to one byte, a `RAW` row's match or an opcode; up to two bytes, the 9-bit `TAB`
address `cfg_variant ++ opcode` (R30, R58); longer, a whole `in_raw` word (R46). -/
def tableWord (nbits w : Nat) : Option TableWord :=
  if nbits ≤ 4 then (if w < 16 then some (.raw (BitVec.ofNat 28 w)) else none)
  else if nbits ≤ 8 then
    if w ∈ rawRowWords then some (.raw (BitVec.ofNat 28 w))
    else if w < 256 then some (.target none (BitVec.ofNat 8 w)) else none
  else if nbits ≤ 16 then
    if w < 512 then some (.target (some (BitVec.ofNat 1 (w / 256))) (BitVec.ofNat 8 w)) else none
  else if w < 2 ^ 28 then some (.raw (BitVec.ofNat 28 w)) else none

/-- The port sample that presents a table word; a target opcode is presented on a fetch cycle at address 0, time 0. -/
def TableWord.sample : TableWord → PortSample
  | .raw w => { quietSample with inValid := true, inRaw := w }
  | .target _ op => rawSample ⟨0, 0, op⟩ codeH codeH

/-- The instruction the decoder reads from a table word. A word without a variant bit means the same under both
variants (mask `0x0FF`); it is read under the extended one. -/
def TableWord.decoded : TableWord → Option Instr
  | .raw w =>
    match decode (TableWord.raw w).sample with
    | .ok (i, _) => some i
    | .error _ => none
  | .target v op =>
    match decodeOpcode (v.getD 1) (TableWord.target v op).sample with
    | .ok i => some i
    | .error _ => none

/-- The instruction the decoder reads from `nbits` bits `w` of spec/opcode_table.json. -/
def decodeTableWord (nbits w : Nat) : Option Instr :=
  match tableWord nbits w with
  | some t => t.decoded
  | none => none

end Sys2Proof
end

