-- ==== Sys2Proof/Machine/State.lean ====
section
/-! DEFINITION. The state of the block (spec/10_state.md R22), its outcomes, and the state after reset (R23). -/

namespace Sys2Proof.Machine

/-- The state tag `st` (R11). -/
inductive StTag where
  | idle
  | awaiting
  | resyncing
  | faulted
  deriving DecidableEq, Repr

/-- The codes of `st` (R11, D27). -/
def StTag.code : StTag → BitVec 2
  | .idle => 0
  | .awaiting => 1
  | .resyncing => 2
  | .faulted => 3

/-- The sticky hard-error register `fault` (R18): 0 or 3; "values 1 and 2 are never written" (U4). -/
inductive FaultReg where
  | none
  | ambiguousBusCycle
  deriving DecidableEq, Repr

/-- The codes of `fault` (R18, R160). -/
def FaultReg.code : FaultReg → BitVec 2
  | .none => 0
  | .ambiguousBusCycle => 3

/-- Every register of R22, the output ports, the input ports still to be presented, and the free-value counter. -/
structure State where
  /-- `st`, the state tag -/
  st         : StTag
  /-- `n`, operand bytes still awaited -/
  n          : BitVec 2
  /-- `p_op`, opcode byte of the open instruction -/
  pOp        : Byte
  /-- `p_b0`, first operand byte -/
  pB0        : Byte
  /-- `p_b1`, second operand byte -/
  pB1        : Byte
  /-- `p_cnt`, operand bytes collected -/
  pCnt       : BitVec 2
  /-- `p_pc`, pcAtFetch -/
  pPc        : Addr
  /-- `p_start`, timestamp of the opcode fetch -/
  pStart     : Timestamp
  /-- `p_end`, timestamp of the last cycle that gave a byte -/
  pEnd       : Timestamp
  /-- `cfg_variant`, 0 base, 1 extended -/
  cfgVariant : BitVec 1
  /-- `cfg_strict`, 0 soft resync, 1 strict -/
  cfgStrict  : BitVec 1
  /-- `fault` -/
  fault      : FaultReg
  /-- `f_ts` -/
  fTs        : Timestamp
  /-- `f_addr` -/
  fAddr      : Addr
  /-- `f_data` -/
  fData      : Byte
  /-- `out_rec0`, `out_rec1` cut to `out_cnt`: the records of the last step, in order (R19, R140) -/
  out        : List Record
  /-- the model's own: the port samples still to be presented (R42; log entry 4) -/
  inputs     : List PortSample
  /-- the model's own: index of the next free value (log entry 3) -/
  freeCtr    : Nat
  deriving DecidableEq, Repr

/-- The machine never stops with a fault: every (state, event) pair has a rule (R120), and the hard error of strict mode is
a state, `Faulted` (R164). So there is nothing to raise, and no constructor. -/
inductive Fault where
  deriving DecidableEq, Repr

/-- Why an instruction has no meaning. -/
inductive Refusal where
  /-- raised by `exec`'s arm of an instruction that has no meaning yet; safe. No arm raises it. -/
  | notModelled (mnemonic : String)
  deriving DecidableEq, Repr

/-- What a meaning answers. -/
abbrev Result := Host.Outcome State Fault Refusal

/-- The state after reset (R23, R180). `st`, `n`, `p_cnt`, `fault` and `out` as R23 says; `cfg_variant` and `cfg_strict` the
pin levels of `Config` (log entry 2); the registers R23 calls "unspecified" hold 0, DESIGN CHOICE (log entry 1). -/
def State.reset : State where
  st := .idle
  n := 0
  pOp := 0
  pB0 := 0
  pB1 := 0
  pCnt := 0
  pPc := 0
  pStart := 0
  pEnd := 0
  cfgVariant := Config.resetVariantPin
  cfgStrict := Config.resetStrictPin
  fault := .none
  fTs := 0
  fAddr := 0
  fData := 0
  out := []
  inputs := []
  freeCtr := 0

/-- The status port: `st`, `n`, `fault`, 2+2+2 bits (R19). -/
structure Status where
  st    : BitVec 2
  n     : BitVec 2
  fault : BitVec 2
  deriving DecidableEq, Repr

/-- What the status port shows, "continuously visible" (R19). -/
def State.status (s : State) : Status := ⟨s.st.code, s.n, s.fault.code⟩

/-- The port `out_cnt` (R19, R140). -/
def State.outCnt (s : State) : BitVec 2 := BitVec.ofNat 2 s.out.length

end Sys2Proof.Machine
end

