-- ==== Sys2Proof/Machine/Classifier.lean ====
section
/-! DEFINITION. The bus sample classifier (spec/42_classifier.md R106 to R114): combinational, stateless. -/

namespace Sys2Proof.Machine

/-- The kind from the two sampled levels (R106): the three clean combinations, and `ambiguous` otherwise. -/
def classifyKind (sync rnw : L3) : CycleKind :=
  match sync, rnw with
  | .high, .high => .fetch
  | .low, .high => .read
  | .low, .low => .write
  | .high, .low => .ambiguous
  | .indet, .low => .ambiguous
  | .indet, .high => .ambiguous
  | .indet, .indet => .ambiguous
  | .low, .indet => .ambiguous
  | .high, .indet => .ambiguous

/-- `classify` (R106): address, data and timestamp pass through (R112); the kind is that of the two control codes alone. -/
def classify (ts : Timestamp) (w : RawWord) : BusCycle :=
  { rawCycle ts w with kind := classifyKind (L3.ofCode (rawSync w)) (L3.ofCode (rawRnw w)) }

end Sys2Proof.Machine
end

