-- ==== Sys2Proof/Machine/Table.lean ====
section
/-! DEFINITION. The opcode-table mux (spec/40_opcode_table.md R70 to R79), the default opcode table (R58, R59), the
content of the mode table (R54), and the parameters of the machine. -/

namespace Sys2Proof.Machine

/-- The unknown marker `"???"` (R52, C4). -/
def unknownMnemonic : Mnemonic := mn '?' '?' '?'

/-- (`"???"`, Implied), what the mux answers for an unknown opcode (R73). -/
def unknownDescriptor : Descriptor := ⟨unknownMnemonic, .implied⟩

/-- `lookup` (R70). An entry with the unknown marker answers (`"???"`, Implied) whatever mode the table holds (R73). -/
def lookup (P : Params) (v : BitVec 1) (op : Byte) : Descriptor :=
  if (P.optab v op).mn = unknownMnemonic then unknownDescriptor else P.optab v op

/-- One read of the space `TAB` at the 9-bit address `cfg_variant ++ opcodeByte` (R30, R71). -/
def tabRead (P : Params) (a : BitVec 9) : BitVec 28 :=
  (P.optab (a.extractLsb' 8 1) (a.extractLsb' 0 8)).word

/-- Is `c` an ASCII character in `0x20` .. `0x7E` (R78 (b))? -/
def printable (c : Byte) : Bool := 0x20#8 ≤ c && c ≤ 0x7E#8

/-- Three printable characters (R78 (b)). -/
def printableMnemonic (m : Mnemonic) : Bool := printable m.c1 && printable m.c2 && printable m.c3

/-- An admissible table (R78). Clauses (a) and (c) are the type's: `OpTable` is total and its modes are the 15 tags. -/
structure Admissible (P : Params) : Prop where
  /-- (b) -/
  printable : ∀ v op, printableMnemonic (P.optab v op).mn = true
  /-- (d), R74 -/
  ldaImmediate : P.optab 1 0xA9 = ⟨mn 'L' 'D' 'A', .immediate⟩
  /-- (d), R75 -/
  jmpAbsolute : P.optab 1 0x4C = ⟨mn 'J' 'M' 'P', .absolute⟩
  /-- (d), R76 -/
  bplRelative : P.optab 1 0x10 = ⟨mn 'B' 'P' 'L', .relative⟩
  /-- (d), R77 -/
  unknown02 : P.optab 1 0x02 = unknownDescriptor

/-! ### `OPTAB_DEFAULT` (R58, R59). All of it but the four entries of R74 to R77 is the spec's general knowledge (G1, G2):
log entry 5. -/

/-- `OPTAB_DEFAULT[1]`, row `0x` (R58). -/
def optabRow0 : List Descriptor :=
  [⟨mn 'B' 'R' 'K', .implied⟩, ⟨mn 'O' 'R' 'A', .indexedIndirect⟩, unknownDescriptor, unknownDescriptor,
   ⟨mn 'T' 'S' 'B', .zeroPage⟩, ⟨mn 'O' 'R' 'A', .zeroPage⟩, ⟨mn 'A' 'S' 'L', .zeroPage⟩, unknownDescriptor,
   ⟨mn 'P' 'H' 'P', .implied⟩, ⟨mn 'O' 'R' 'A', .immediate⟩, ⟨mn 'A' 'S' 'L', .impliedAccumulator⟩, unknownDescriptor,
   ⟨mn 'T' 'S' 'B', .absolute⟩, ⟨mn 'O' 'R' 'A', .absolute⟩, ⟨mn 'A' 'S' 'L', .absolute⟩, unknownDescriptor]

/-- `OPTAB_DEFAULT[1]`, row `1x` (R58). -/
def optabRow1 : List Descriptor :=
  [⟨mn 'B' 'P' 'L', .relative⟩, ⟨mn 'O' 'R' 'A', .indirectIndexed⟩, ⟨mn 'O' 'R' 'A', .indirect⟩, unknownDescriptor,
   ⟨mn 'T' 'R' 'B', .zeroPage⟩, ⟨mn 'O' 'R' 'A', .zeroPageX⟩, ⟨mn 'A' 'S' 'L', .zeroPageX⟩, unknownDescriptor,
   ⟨mn 'C' 'L' 'C', .implied⟩, ⟨mn 'O' 'R' 'A', .absoluteY⟩, ⟨mn 'I' 'N' 'C', .impliedAccumulator⟩, unknownDescriptor,
   ⟨mn 'T' 'R' 'B', .absolute⟩, ⟨mn 'O' 'R' 'A', .absoluteX⟩, ⟨mn 'A' 'S' 'L', .absoluteX⟩, unknownDescriptor]

/-- `OPTAB_DEFAULT[1]`, row `2x` (R58). -/
def optabRow2 : List Descriptor :=
  [⟨mn 'J' 'S' 'R', .absolute⟩, ⟨mn 'A' 'N' 'D', .indexedIndirect⟩, unknownDescriptor, unknownDescriptor,
   ⟨mn 'B' 'I' 'T', .zeroPage⟩, ⟨mn 'A' 'N' 'D', .zeroPage⟩, ⟨mn 'R' 'O' 'L', .zeroPage⟩, unknownDescriptor,
   ⟨mn 'P' 'L' 'P', .implied⟩, ⟨mn 'A' 'N' 'D', .immediate⟩, ⟨mn 'R' 'O' 'L', .impliedAccumulator⟩, unknownDescriptor,
   ⟨mn 'B' 'I' 'T', .absolute⟩, ⟨mn 'A' 'N' 'D', .absolute⟩, ⟨mn 'R' 'O' 'L', .absolute⟩, unknownDescriptor]

/-- `OPTAB_DEFAULT[1]`, row `3x` (R58). -/
def optabRow3 : List Descriptor :=
  [⟨mn 'B' 'M' 'I', .relative⟩, ⟨mn 'A' 'N' 'D', .indirectIndexed⟩, ⟨mn 'A' 'N' 'D', .indirect⟩, unknownDescriptor,
   ⟨mn 'B' 'I' 'T', .zeroPageX⟩, ⟨mn 'A' 'N' 'D', .zeroPageX⟩, ⟨mn 'R' 'O' 'L', .zeroPageX⟩, unknownDescriptor,
   ⟨mn 'S' 'E' 'C', .implied⟩, ⟨mn 'A' 'N' 'D', .absoluteY⟩, ⟨mn 'D' 'E' 'C', .impliedAccumulator⟩, unknownDescriptor,
   ⟨mn 'B' 'I' 'T', .absoluteX⟩, ⟨mn 'A' 'N' 'D', .absoluteX⟩, ⟨mn 'R' 'O' 'L', .absoluteX⟩, unknownDescriptor]

/-- `OPTAB_DEFAULT[1]`, row `4x` (R58). -/
def optabRow4 : List Descriptor :=
  [⟨mn 'R' 'T' 'I', .implied⟩, ⟨mn 'E' 'O' 'R', .indexedIndirect⟩, unknownDescriptor, unknownDescriptor,
   unknownDescriptor, ⟨mn 'E' 'O' 'R', .zeroPage⟩, ⟨mn 'L' 'S' 'R', .zeroPage⟩, unknownDescriptor,
   ⟨mn 'P' 'H' 'A', .implied⟩, ⟨mn 'E' 'O' 'R', .immediate⟩, ⟨mn 'L' 'S' 'R', .impliedAccumulator⟩, unknownDescriptor,
   ⟨mn 'J' 'M' 'P', .absolute⟩, ⟨mn 'E' 'O' 'R', .absolute⟩, ⟨mn 'L' 'S' 'R', .absolute⟩, unknownDescriptor]

/-- `OPTAB_DEFAULT[1]`, row `5x` (R58). -/
def optabRow5 : List Descriptor :=
  [⟨mn 'B' 'V' 'C', .relative⟩, ⟨mn 'E' 'O' 'R', .indirectIndexed⟩, ⟨mn 'E' 'O' 'R', .indirect⟩, unknownDescriptor,
   unknownDescriptor, ⟨mn 'E' 'O' 'R', .zeroPageX⟩, ⟨mn 'L' 'S' 'R', .zeroPageX⟩, unknownDescriptor,
   ⟨mn 'C' 'L' 'I', .implied⟩, ⟨mn 'E' 'O' 'R', .absoluteY⟩, ⟨mn 'P' 'H' 'Y', .implied⟩, unknownDescriptor,
   unknownDescriptor, ⟨mn 'E' 'O' 'R', .absoluteX⟩, ⟨mn 'L' 'S' 'R', .absoluteX⟩, unknownDescriptor]

/-- `OPTAB_DEFAULT[1]`, row `6x` (R58). -/
def optabRow6 : List Descriptor :=
  [⟨mn 'R' 'T' 'S', .implied⟩, ⟨mn 'A' 'D' 'C', .indexedIndirect⟩, unknownDescriptor, unknownDescriptor,
   ⟨mn 'S' 'T' 'Z', .zeroPage⟩, ⟨mn 'A' 'D' 'C', .zeroPage⟩, ⟨mn 'R' 'O' 'R', .zeroPage⟩, unknownDescriptor,
   ⟨mn 'P' 'L' 'A', .implied⟩, ⟨mn 'A' 'D' 'C', .immediate⟩, ⟨mn 'R' 'O' 'R', .impliedAccumulator⟩, unknownDescriptor,
   ⟨mn 'J' 'M' 'P', .absoluteIndirect16⟩, ⟨mn 'A' 'D' 'C', .absolute⟩, ⟨mn 'R' 'O' 'R', .absolute⟩, unknownDescriptor]

/-- `OPTAB_DEFAULT[1]`, row `7x` (R58). -/
def optabRow7 : List Descriptor :=
  [⟨mn 'B' 'V' 'S', .relative⟩, ⟨mn 'A' 'D' 'C', .indirectIndexed⟩, ⟨mn 'A' 'D' 'C', .indirect⟩, unknownDescriptor,
   ⟨mn 'S' 'T' 'Z', .zeroPageX⟩, ⟨mn 'A' 'D' 'C', .zeroPageX⟩, ⟨mn 'R' 'O' 'R', .zeroPageX⟩, unknownDescriptor,
   ⟨mn 'S' 'E' 'I', .implied⟩, ⟨mn 'A' 'D' 'C', .absoluteY⟩, ⟨mn 'P' 'L' 'Y', .implied⟩, unknownDescriptor,
   ⟨mn 'J' 'M' 'P', .absoluteIndirectX⟩, ⟨mn 'A' 'D' 'C', .absoluteX⟩, ⟨mn 'R' 'O' 'R', .absoluteX⟩, unknownDescriptor]

/-- `OPTAB_DEFAULT[1]`, row `8x` (R58). -/
def optabRow8 : List Descriptor :=
  [⟨mn 'B' 'R' 'A', .relative⟩, ⟨mn 'S' 'T' 'A', .indexedIndirect⟩, unknownDescriptor, unknownDescriptor,
   ⟨mn 'S' 'T' 'Y', .zeroPage⟩, ⟨mn 'S' 'T' 'A', .zeroPage⟩, ⟨mn 'S' 'T' 'X', .zeroPage⟩, unknownDescriptor,
   ⟨mn 'D' 'E' 'Y', .implied⟩, ⟨mn 'B' 'I' 'T', .immediate⟩, ⟨mn 'T' 'X' 'A', .implied⟩, unknownDescriptor,
   ⟨mn 'S' 'T' 'Y', .absolute⟩, ⟨mn 'S' 'T' 'A', .absolute⟩, ⟨mn 'S' 'T' 'X', .absolute⟩, unknownDescriptor]

/-- `OPTAB_DEFAULT[1]`, row `9x` (R58). -/
def optabRow9 : List Descriptor :=
  [⟨mn 'B' 'C' 'C', .relative⟩, ⟨mn 'S' 'T' 'A', .indirectIndexed⟩, ⟨mn 'S' 'T' 'A', .indirect⟩, unknownDescriptor,
   ⟨mn 'S' 'T' 'Y', .zeroPageX⟩, ⟨mn 'S' 'T' 'A', .zeroPageX⟩, ⟨mn 'S' 'T' 'X', .zeroPageY⟩, unknownDescriptor,
   ⟨mn 'T' 'Y' 'A', .implied⟩, ⟨mn 'S' 'T' 'A', .absoluteY⟩, ⟨mn 'T' 'X' 'S', .implied⟩, unknownDescriptor,
   ⟨mn 'S' 'T' 'Z', .absolute⟩, ⟨mn 'S' 'T' 'A', .absoluteX⟩, ⟨mn 'S' 'T' 'Z', .absoluteX⟩, unknownDescriptor]

/-- `OPTAB_DEFAULT[1]`, row `Ax` (R58). -/
def optabRowA : List Descriptor :=
  [⟨mn 'L' 'D' 'Y', .immediate⟩, ⟨mn 'L' 'D' 'A', .indexedIndirect⟩, ⟨mn 'L' 'D' 'X', .immediate⟩, unknownDescriptor,
   ⟨mn 'L' 'D' 'Y', .zeroPage⟩, ⟨mn 'L' 'D' 'A', .zeroPage⟩, ⟨mn 'L' 'D' 'X', .zeroPage⟩, unknownDescriptor,
   ⟨mn 'T' 'A' 'Y', .implied⟩, ⟨mn 'L' 'D' 'A', .immediate⟩, ⟨mn 'T' 'A' 'X', .implied⟩, unknownDescriptor,
   ⟨mn 'L' 'D' 'Y', .absolute⟩, ⟨mn 'L' 'D' 'A', .absolute⟩, ⟨mn 'L' 'D' 'X', .absolute⟩, unknownDescriptor]

/-- `OPTAB_DEFAULT[1]`, row `Bx` (R58). -/
def optabRowB : List Descriptor :=
  [⟨mn 'B' 'C' 'S', .relative⟩, ⟨mn 'L' 'D' 'A', .indirectIndexed⟩, ⟨mn 'L' 'D' 'A', .indirect⟩, unknownDescriptor,
   ⟨mn 'L' 'D' 'Y', .zeroPageX⟩, ⟨mn 'L' 'D' 'A', .zeroPageX⟩, ⟨mn 'L' 'D' 'X', .zeroPageY⟩, unknownDescriptor,
   ⟨mn 'C' 'L' 'V', .implied⟩, ⟨mn 'L' 'D' 'A', .absoluteY⟩, ⟨mn 'T' 'S' 'X', .implied⟩, unknownDescriptor,
   ⟨mn 'L' 'D' 'Y', .absoluteX⟩, ⟨mn 'L' 'D' 'A', .absoluteX⟩, ⟨mn 'L' 'D' 'X', .absoluteY⟩, unknownDescriptor]

/-- `OPTAB_DEFAULT[1]`, row `Cx` (R58). -/
def optabRowC : List Descriptor :=
  [⟨mn 'C' 'P' 'Y', .immediate⟩, ⟨mn 'C' 'M' 'P', .indexedIndirect⟩, unknownDescriptor, unknownDescriptor,
   ⟨mn 'C' 'P' 'Y', .zeroPage⟩, ⟨mn 'C' 'M' 'P', .zeroPage⟩, ⟨mn 'D' 'E' 'C', .zeroPage⟩, unknownDescriptor,
   ⟨mn 'I' 'N' 'Y', .implied⟩, ⟨mn 'C' 'M' 'P', .immediate⟩, ⟨mn 'D' 'E' 'X', .implied⟩, unknownDescriptor,
   ⟨mn 'C' 'P' 'Y', .absolute⟩, ⟨mn 'C' 'M' 'P', .absolute⟩, ⟨mn 'D' 'E' 'C', .absolute⟩, unknownDescriptor]

/-- `OPTAB_DEFAULT[1]`, row `Dx` (R58). -/
def optabRowD : List Descriptor :=
  [⟨mn 'B' 'N' 'E', .relative⟩, ⟨mn 'C' 'M' 'P', .indirectIndexed⟩, ⟨mn 'C' 'M' 'P', .indirect⟩, unknownDescriptor,
   unknownDescriptor, ⟨mn 'C' 'M' 'P', .zeroPageX⟩, ⟨mn 'D' 'E' 'C', .zeroPageX⟩, unknownDescriptor,
   ⟨mn 'C' 'L' 'D', .implied⟩, ⟨mn 'C' 'M' 'P', .absoluteY⟩, ⟨mn 'P' 'H' 'X', .implied⟩, unknownDescriptor,
   unknownDescriptor, ⟨mn 'C' 'M' 'P', .absoluteX⟩, ⟨mn 'D' 'E' 'C', .absoluteX⟩, unknownDescriptor]

/-- `OPTAB_DEFAULT[1]`, row `Ex` (R58). -/
def optabRowE : List Descriptor :=
  [⟨mn 'C' 'P' 'X', .immediate⟩, ⟨mn 'S' 'B' 'C', .indexedIndirect⟩, unknownDescriptor, unknownDescriptor,
   ⟨mn 'C' 'P' 'X', .zeroPage⟩, ⟨mn 'S' 'B' 'C', .zeroPage⟩, ⟨mn 'I' 'N' 'C', .zeroPage⟩, unknownDescriptor,
   ⟨mn 'I' 'N' 'X', .implied⟩, ⟨mn 'S' 'B' 'C', .immediate⟩, ⟨mn 'N' 'O' 'P', .implied⟩, unknownDescriptor,
   ⟨mn 'C' 'P' 'X', .absolute⟩, ⟨mn 'S' 'B' 'C', .absolute⟩, ⟨mn 'I' 'N' 'C', .absolute⟩, unknownDescriptor]

/-- `OPTAB_DEFAULT[1]`, row `Fx` (R58). -/
def optabRowF : List Descriptor :=
  [⟨mn 'B' 'E' 'Q', .relative⟩, ⟨mn 'S' 'B' 'C', .indirectIndexed⟩, ⟨mn 'S' 'B' 'C', .indirect⟩, unknownDescriptor,
   unknownDescriptor, ⟨mn 'S' 'B' 'C', .zeroPageX⟩, ⟨mn 'I' 'N' 'C', .zeroPageX⟩, unknownDescriptor,
   ⟨mn 'S' 'E' 'D', .implied⟩, ⟨mn 'S' 'B' 'C', .absoluteY⟩, ⟨mn 'P' 'L' 'X', .implied⟩, unknownDescriptor,
   unknownDescriptor, ⟨mn 'S' 'B' 'C', .absoluteX⟩, ⟨mn 'I' 'N' 'C', .absoluteX⟩, unknownDescriptor]

/-- The sixteen rows of `OPTAB_DEFAULT[1]`. -/
def optabRows : List (List Descriptor) :=
  [optabRow0, optabRow1, optabRow2, optabRow3, optabRow4, optabRow5, optabRow6, optabRow7,
   optabRow8, optabRow9, optabRowA, optabRowB, optabRowC, optabRowD, optabRowE, optabRowF]

/-- The 27 opcodes that the base variant maps to (`"???"`, Implied) (R59). -/
def baseUnknown : List Byte :=
  [0x04, 0x0C, 0x12, 0x14, 0x1A, 0x1C, 0x32, 0x34, 0x3A, 0x3C, 0x52, 0x5A, 0x64, 0x72,
   0x74, 0x7A, 0x7C, 0x80, 0x89, 0x92, 0x9C, 0x9E, 0xB2, 0xD2, 0xDA, 0xF2, 0xFA]

/-- `OPTAB_DEFAULT[1]` (R58). -/
def optabExtended (op : Byte) : Descriptor :=
  (optabRows.getD (op.toNat / 16) []).getD (op.toNat % 16) unknownDescriptor

/-- `OPTAB_DEFAULT`: the extended table, and the base table as an override map over it (R58, R59). -/
def optabDefault (v : BitVec 1) (op : Byte) : Descriptor :=
  if v = 0 ∧ baseUnknown.contains op then unknownDescriptor else optabExtended op

/-- The format of a mode in `MODETAB` (R49, R54: column `len`). -/
def modeFormat : AddrMode → Format
  | .implied => .op1
  | .impliedAccumulator => .op1
  | .relative => .op2
  | .immediate => .op2
  | .zeroPage => .op2
  | .zeroPageX => .op2
  | .zeroPageY => .op2
  | .indexedIndirect => .op2
  | .indirectIndexed => .op2
  | .indirect => .op2
  | .absolute => .op3
  | .absoluteX => .op3
  | .absoluteY => .op3
  | .absoluteIndirect16 => .op3
  | .absoluteIndirectX => .op3

/-- The content of `MODETAB` (R54): each mode has its own template. The lengths of the 11 modes of D7 are the spec's own. -/
def modeTabDefault : ModeTable := fun m => ⟨modeFormat m, m⟩

/-- `BRANCH_PREFIX` = `"PC+"` (R4, R83, D9). -/
def branchPrefixDefault : Text := text ['P', 'C', '+']

/-- The parameters of the machine that `exec` and `step` are: the spec's tables and defaults (R4, R54, R58, R59). -/
def blockParams : Params := ⟨optabDefault, modeTabDefault, branchPrefixDefault, Config.TSW⟩

end Sys2Proof.Machine
end

