-- ==== Sys2Proof/Machine/Operands.lean ====
section
/-! DEFINITION. Operand assembly (spec/30_encoding.md R51) and the addressing-mode resolver
(spec/41_mode_resolver.md R80 to R101). -/

namespace Sys2Proof.Machine

/-! ### The mode table -/

/-- `encodingFor`, the read of `MODETAB` (R80, R30): total over the closed enumeration of modes. -/
def encodingFor (P : Params) (m : AddrMode) : ModeEncoding := P.modetab m

/-- `encodingFor(m).byteLength` (R54, R80). -/
def byteLength (P : Params) (m : AddrMode) : BitVec 2 := (encodingFor P m).format.len

/-- One read of the space `MODE` at a 4-bit address (R30): a ModeEncoding word; address 15 is reserved. -/
def modeRead (P : Params) (a : BitVec 4) : Except DecodeError (BitVec 6) :=
  match AddrMode.ofCode a with
  | .ok m => .ok (encodingFor P m).word
  | .error e => .error e

/-- A mode table that says what R54 has from the source: the four lengths of Implied, Relative, Immediate and Absolute,
and that "each mode has its own template". The other 11 lengths are open to the table (D7). -/
structure AdmissibleModes (P : Params) : Prop where
  template : ∀ m, (encodingFor P m).tmpl = m
  implied : byteLength P .implied = 1
  relative : byteLength P .relative = 2
  immediate : byteLength P .immediate = 2
  absolute : byteLength P .absolute = 3

/-! ### Operands (R51, R32) and the branch display transform (R98) -/

/-- 8-bit operand: `b0`, unsigned, not extended (R51 (a)). -/
def op8 (b0 : Byte) : Byte := b0

/-- Signed displacement `sext_16(b0)` (R51 (b)). -/
def off16 (b0 : Byte) : Addr := b0.signExtend 16

/-- 16-bit operand `b1 ++ b0`: the first byte to arrive is the low one (R51 (c), R32). -/
def op16 (b0 b1 : Byte) : Addr := b1 ++ b0

/-- `(pc + 2 + sext_16(b0)) mod 2^16` (R98). -/
def branchTarget (pc : Addr) (b0 : Byte) : Addr := pc + 2 + off16 b0

/-! ### Text (R97, R96, R81 to R95) -/

/-- One hexadecimal digit, `0`-`9` then `A`-`F` in upper case (R97). -/
def hexDigit (d : BitVec 4) : Byte :=
  if d.toNat < 10 then BitVec.ofNat 8 (48 + d.toNat) else BitVec.ofNat 8 (55 + d.toNat)

/-- `hex2(b)`: two digits, most significant first, leading zeros kept (R97). -/
def hex2 (b : Byte) : Text := [hexDigit (b.extractLsb' 4 4), hexDigit (b.extractLsb' 0 4)]

/-- `hex4(w)`: four digits, most significant first (R97). -/
def hex4 (w : Addr) : Text := hex2 (w.extractLsb' 8 8) ++ hex2 (w.extractLsb' 0 8)

/-- The operand part of each template, after the mnemonic (R81 to R95). Only that of Relative reads `pc`. -/
def operandText (P : Params) (tmpl : AddrMode) (b0 b1 : Byte) (pc : Addr) : Text :=
  match tmpl with
  | .implied => []
  | .impliedAccumulator => text [' ', 'A']
  | .relative => text [' '] ++ P.branchPrefix ++ hex4 (branchTarget pc b0)
  | .immediate => text [' ', '#'] ++ hex2 (op8 b0)
  | .zeroPage => text [' '] ++ hex2 (op8 b0)
  | .zeroPageX => text [' '] ++ hex2 (op8 b0) ++ text [',', 'X']
  | .zeroPageY => text [' '] ++ hex2 (op8 b0) ++ text [',', 'Y']
  | .indexedIndirect => text [' ', '('] ++ hex2 (op8 b0) ++ text [',', 'X', ')']
  | .indirectIndexed => text [' ', '('] ++ hex2 (op8 b0) ++ text [')', ',', 'Y']
  | .indirect => text [' ', '('] ++ hex2 (op8 b0) ++ text [')']
  | .absolute => text [' '] ++ hex4 (op16 b0 b1)
  | .absoluteX => text [' '] ++ hex4 (op16 b0 b1) ++ text [',', 'X']
  | .absoluteY => text [' '] ++ hex4 (op16 b0 b1) ++ text [',', 'Y']
  | .absoluteIndirect16 => text [' ', '('] ++ hex4 (op16 b0 b1) ++ text [')']
  | .absoluteIndirectX => text [' ', '('] ++ hex4 (op16 b0 b1) ++ text [',', 'X', ')']

/-- `format(mn, m, b0, b1, pc)` (R96): mnemonic, then the operand text of the mode's template (R54). -/
def format (P : Params) (mnem : Mnemonic) (m : AddrMode) (b0 b1 : Byte) (pc : Addr) : Text :=
  mnem.text ++ operandText P (encodingFor P m).tmpl b0 b1 pc

end Sys2Proof.Machine
end

