-- ==== Sys2Proof/Machine/Flags.lean ====
section
/-! DEFINITION. The flags of an emitted record, `kind`, `reason`, `err` (spec/10_state.md R25 (b); spec/30_encoding.md R56).
The block has no condition codes (R25). -/

namespace Sys2Proof.Machine

/-- Does the descriptor carry the unknown marker (R122: `unk`)? -/
def isUnknown (d : Descriptor) : Bool := d.mn == unknownMnemonic

/-- `kind` of a record closed with all its bytes (R122, R56). -/
def closedKind (d : Descriptor) : RecKind := if isUnknown d then .unknown else .complete

/-- `err` of a record closed with all its bytes (R122, R56). -/
def closedErr (d : Descriptor) : RecErr := if isUnknown d then .unknownOpcode else .none

end Sys2Proof.Machine
end

