-- ==== Sys2Proof/Machine/Ops.lean ====
section
/-! DEFINITION. The named operations on the registers, and the events of the reconstructor over them
(spec/43_reconstructor.md R121 to R137; spec/60_exceptions.md R164; spec/70_reset_and_hazards.md R180). Every operation
takes the block's parameters `P`, so that a statement can quantify over every admissible opcode table (R78). -/

namespace Sys2Proof.Machine

/-! ### Register updates -/

/-- Begin a step's output: no record yet (R140). -/
def State.clearOut (s : State) : State := { s with out := [] }

/-- `emit(rec)`: append to this step's output (R140). -/
def State.emit (s : State) (r : Record) : State := { s with out := s.out ++ [r] }

/-- `st <- t`. -/
def State.setSt (s : State) (t : StTag) : State := { s with st := t }

/-- `n <- k`. -/
def State.setN (s : State) (k : BitVec 2) : State := { s with n := k }

/-- The pending registers that `START(c)` writes (R121). `p_b0` and `p_b1` are not cleared. -/
def State.openPending (s : State) (c : Cycle) : State :=
  { s with pOp := c.data, pPc := c.addr, pStart := c.ts, pEnd := c.ts, pCnt := 0 }

/-- Append an operand byte (R128): into `p_b0` if `p_cnt` = 0, else into `p_b1`; count it; decrement `n`. -/
def State.appendOperand (s : State) (c : Cycle) : State :=
  { s with
    pB0 := if s.pCnt = 0 then c.data else s.pB0
    pB1 := if s.pCnt = 0 then s.pB1 else c.data
    pCnt := s.pCnt + 1
    pEnd := c.ts
    n := s.n - 1 }

/-- The fault registers (R164). -/
def State.latchFault (s : State) (c : Cycle) : State :=
  { s with fault := .ambiguousBusCycle, fTs := c.ts, fAddr := c.addr, fData := c.data }

/-- The registers after a reset event (R180, R23). Those it leaves "unspecified" hold free values (U6; log entry 3). -/
def State.resetRegs (P : Params) (s : State) (variant strict : BitVec 1) : State :=
  { s with
    st := .idle
    n := 0
    pCnt := 0
    fault := .none
    cfgVariant := variant
    cfgStrict := strict
    pOp := Config.freeValue 8 s.freeCtr
    pB0 := Config.freeValue 8 (s.freeCtr + 1)
    pB1 := Config.freeValue 8 (s.freeCtr + 2)
    pPc := Config.freeValue 16 (s.freeCtr + 3)
    pStart := (Config.freeValue P.tsw (s.freeCtr + 4)).toNat
    pEnd := (Config.freeValue P.tsw (s.freeCtr + 5)).toNat
    fTs := (Config.freeValue P.tsw (s.freeCtr + 6)).toNat
    fAddr := Config.freeValue 16 (s.freeCtr + 7)
    fData := Config.freeValue 8 (s.freeCtr + 8)
    freeCtr := s.freeCtr + 9 }

/-! ### Records (R122, R123) -/

/-- The descriptor of the open instruction, recomputed from `p_op` (R13, R70). -/
def openDescriptor (P : Params) (s : State) : Descriptor := lookup P s.cfgVariant s.pOp

/-- `rec.b0`: `p_b0` if `p_cnt >= 1`, else zero (R122, R123, D31). -/
def recB0 (s : State) : Byte := if 1 ≤ s.pCnt.toNat then s.pB0 else 0

/-- `rec.b1` of a closed record: `p_b1` if `p_cnt = 2`, else zero (R122, D31). -/
def recB1 (s : State) : Byte := if s.pCnt.toNat = 2 then s.pB1 else 0

/-- `rec.target` of a closed record: the branch target for Relative, else zero (R122, R55). -/
def recTarget (d : Descriptor) (s : State) : Addr :=
  if d.mode = .relative then branchTarget s.pPc s.pB0 else 0

/-- The record of `CLOSE_COMPLETE` (R122) for the descriptor `d` of the open instruction. -/
def completeRecord (P : Params) (d : Descriptor) (s : State) : Record where
  kind := closedKind d
  reason := .none
  err := closedErr d
  opcode := s.pOp
  mn := d.mn
  mode := d.mode
  len := byteLength P d.mode
  cnt := s.pCnt
  b0 := recB0 s
  b1 := recB1 s
  pc := s.pPc
  target := recTarget d s
  text := format P d.mn d.mode (recB0 s) (recB1 s) s.pPc
  startTs := s.pStart
  endTs := s.pEnd

/-- The record of `CLOSE_TRUNCATED(why)` (R123, R100 (b)). -/
def truncatedRecord (P : Params) (d : Descriptor) (why : Reason) (s : State) : Record where
  kind := .truncated
  reason := why
  err := .truncatedInstruction
  opcode := s.pOp
  mn := d.mn
  mode := d.mode
  len := byteLength P d.mode
  cnt := s.pCnt
  b0 := recB0 s
  b1 := 0
  pc := s.pPc
  target := 0
  text := d.mn.text
  startTs := s.pStart
  endTs := s.pEnd

/-- `CLOSE_COMPLETE()` (R122). -/
def closeComplete (P : Params) (d : Descriptor) (s : State) : State := s.emit (completeRecord P d s)

/-- `CLOSE_TRUNCATED(why)` (R123). -/
def closeTruncated (P : Params) (why : Reason) (s : State) : State :=
  s.emit (truncatedRecord P (openDescriptor P s) why s)

/-- `START(c)` (R121) for the descriptor `d` of the opcode byte `c.data`. -/
def start (P : Params) (d : Descriptor) (c : Cycle) (s : State) : State :=
  if byteLength P d.mode = 1 then
    ((closeComplete P d (s.openPending c)).setSt .idle).setN 0
  else
    ((s.openPending c).setSt .awaiting).setN (byteLength P d.mode - 1)

/-! ### Taking the hard error, and leaving it -/

/-- `FAULT(c)`, taking the strict-mode hard error `AmbiguousBusCycle` (R164): `fault` = 3, the cycle captured,
`st` = Faulted, `n` = 0. There is no handler and no vector; `Faulted` is absorbing. -/
def faultEntry (c : Cycle) (s : State) : State := ((s.latchFault c).setSt .faulted).setN 0

/-- The reset event (R180), the only way out of `Faulted` (R165): no record. -/
def resetBlock (P : Params) (variant strict : BitVec 1) (s : State) : State := s.clearOut.resetRegs P variant strict

/-! ### The events of the reconstructor, by state -/

/-- An opcode-fetch cycle whose opcode has descriptor `d`: R124 (Idle), R129 (AwaitingOperands), R132 (Resyncing),
R137 (Faulted). The truncated record is built before `START` overwrites the pending registers (R129, D18). -/
def fetchWith (P : Params) (d : Descriptor) (c : Cycle) (s : State) : State :=
  match s.st with
  | .idle => start P d c s.clearOut
  | .awaiting => start P d c (closeTruncated P .desync s.clearOut)
  | .resyncing => start P d c s.clearOut
  | .faulted => s.clearOut

/-- A `fetch` cycle: its opcode is looked up in the table of the session's variant (R121, R70). -/
def fetchCycle (P : Params) (c : Cycle) (s : State) : State := fetchWith P (lookup P s.cfgVariant c.data) c s

/-- Append an operand byte and, when it is the last, close the instruction and return to `Idle` (R128). -/
def collectOperand (P : Params) (c : Cycle) (s : State) : State :=
  let s1 := s.appendOperand c
  if s1.n = 0 then (closeComplete P (openDescriptor P s1) s1).setSt .idle else s1

/-- A `read` cycle: R125 (Idle), R128 (AwaitingOperands), R133 (Resyncing), R137 (Faulted). -/
def readCycle (P : Params) (c : Cycle) (s : State) : State :=
  match s.st with
  | .idle => s.clearOut
  | .awaiting => collectOperand P c s.clearOut
  | .resyncing => s.clearOut
  | .faulted => s.clearOut

/-- A `write` cycle changes nothing in any state: R126, R130, R134, R137 (D15). -/
def writeCycle (s : State) : State := s.clearOut

/-- What an ambiguous cycle does once no instruction is open: the hard error in strict mode, else `Resyncing`
(R127, R131, R135). -/
def ambiguousExit (c : Cycle) (s : State) : State :=
  if s.cfgStrict = 1 then faultEntry c s else s.setSt .resyncing

/-- An `ambiguous` cycle: R127 (Idle), R131 (AwaitingOperands), R135 (Resyncing), R137 (Faulted). -/
def ambiguousCycle (P : Params) (c : Cycle) (s : State) : State :=
  match s.st with
  | .idle => ambiguousExit c s.clearOut
  | .awaiting => ambiguousExit c ((closeTruncated P .desync s.clearOut).setN 0)
  | .resyncing => ambiguousExit c s.clearOut
  | .faulted => s.clearOut

/-- The end-of-stream event (R136, R137). `p_cnt` is not cleared (log entry 6). -/
def endOfStream (P : Params) (s : State) : State :=
  match s.st with
  | .idle => s.clearOut
  | .awaiting => ((closeTruncated P .endOfStream s.clearOut).setN 0).setSt .idle
  | .resyncing => s.clearOut.setSt .idle
  | .faulted => s.clearOut

/-! ### Level T: a target opcode on its fetch cycle -/

/-- What the mux answers for the row's opcode byte in a session of variant `v` (R70, R72): the row's own descriptor
where the row has a word under `v`, else the other entry of that opcode (log entry 7). -/
def rowDescriptor (row : TargetRow) (v : BitVec 1) : Descriptor :=
  if row.variants.admits v then row.desc else lookup blockParams v row.opcode

/-- The block takes an opcode-fetch cycle that carries this row's opcode (R79, R74 to R77, R81 to R95). -/
def targetFetch (row : TargetRow) (f : OpFetch) (s : State) : State :=
  fetchWith blockParams (rowDescriptor row s.cfgVariant) (f.cycle row.opcode) s

end Sys2Proof.Machine
end

