-- ==== Sys2Proof/Machine/Events.lean ====
section
/-! DEFINITION. The meanings of the level E instructions, the block's own events (spec/opcode_table.json rows of format
`RAW` and `PORT`). -/

namespace Sys2Proof.Machine

/-- FETCH (R107): an opcode-fetch cycle, R124, R129, R132, R137. -/
def execFetch (c : Cycle) (s : State) : Result := .next (fetchCycle blockParams c s)

/-- READ (R108): R125, R128, R133, R137. -/
def execRead (c : Cycle) (s : State) : Result := .next (readCycle blockParams c s)

/-- WRITE (R109): R126, R130, R134, R137. The sampled cycle is ignored (R37, D15). -/
def execWrite (_c : Cycle) (s : State) : Result := .next (writeCycle s)

/-- AMBIG by inconsistent levels (R110): R127, R131, R135, R137. -/
def execAmbigInconsistent (c : Cycle) (s : State) : Result := .next (ambiguousCycle blockParams c s)

/-- AMBIG with `sync` indeterminate (R111): the kind alone counts, whatever the line codes. -/
def execAmbigSync (_sync _rnw : BitVec 2) (c : Cycle) (s : State) : Result := .next (ambiguousCycle blockParams c s)

/-- AMBIG with `sync` clean and `rnw` indeterminate (R111). -/
def execAmbigRnw (_sync _rnw : BitVec 2) (c : Cycle) (s : State) : Result := .next (ambiguousCycle blockParams c s)

/-- EOS, the end-of-stream event (R136, R137). -/
def execEos (s : State) : Result := .next (endOfStream blockParams s)

/-- RESET, with the levels of the configuration pins (R180). -/
def execReset (variant strict : BitVec 1) (s : State) : Result := .next (resetBlock blockParams variant strict s)

end Sys2Proof.Machine
end

