-- ==== Sys2Proof/Machine/TargetAbsolute.lean ====
section
/-! DEFINITION. The meanings of the target opcodes of the three-byte modes (R91 to R95): each is its row of
spec/opcode_table.json, taken on its opcode-fetch cycle (R79). -/

namespace Sys2Proof.Machine

/-- `0x0C` TSB, R91, extended variant (R59). -/
def execTsbAbs (f : OpFetch) (s : State) : Result :=
  .next (targetFetch ⟨0x0C, .extendedOnly, ⟨mn 'T' 'S' 'B', .absolute⟩⟩ f s)

/-- `0x0D` ORA, R91. -/
def execOraAbs (f : OpFetch) (s : State) : Result :=
  .next (targetFetch ⟨0x0D, .both, ⟨mn 'O' 'R' 'A', .absolute⟩⟩ f s)

/-- `0x0E` ASL, R91. -/
def execAslAbs (f : OpFetch) (s : State) : Result :=
  .next (targetFetch ⟨0x0E, .both, ⟨mn 'A' 'S' 'L', .absolute⟩⟩ f s)

/-- `0x19` ORA, R93. -/
def execOraAby (f : OpFetch) (s : State) : Result :=
  .next (targetFetch ⟨0x19, .both, ⟨mn 'O' 'R' 'A', .absoluteY⟩⟩ f s)

/-- `0x1C` TRB, R91, extended variant (R59). -/
def execTrbAbs (f : OpFetch) (s : State) : Result :=
  .next (targetFetch ⟨0x1C, .extendedOnly, ⟨mn 'T' 'R' 'B', .absolute⟩⟩ f s)

/-- `0x1D` ORA, R92. -/
def execOraAbx (f : OpFetch) (s : State) : Result :=
  .next (targetFetch ⟨0x1D, .both, ⟨mn 'O' 'R' 'A', .absoluteX⟩⟩ f s)

/-- `0x1E` ASL, R92. -/
def execAslAbx (f : OpFetch) (s : State) : Result :=
  .next (targetFetch ⟨0x1E, .both, ⟨mn 'A' 'S' 'L', .absoluteX⟩⟩ f s)

/-- `0x20` JSR, R91. -/
def execJsrAbs (f : OpFetch) (s : State) : Result :=
  .next (targetFetch ⟨0x20, .both, ⟨mn 'J' 'S' 'R', .absolute⟩⟩ f s)

/-- `0x2C` BIT, R91. -/
def execBitAbs (f : OpFetch) (s : State) : Result :=
  .next (targetFetch ⟨0x2C, .both, ⟨mn 'B' 'I' 'T', .absolute⟩⟩ f s)

/-- `0x2D` AND, R91. -/
def execAndAbs (f : OpFetch) (s : State) : Result :=
  .next (targetFetch ⟨0x2D, .both, ⟨mn 'A' 'N' 'D', .absolute⟩⟩ f s)

/-- `0x2E` ROL, R91. -/
def execRolAbs (f : OpFetch) (s : State) : Result :=
  .next (targetFetch ⟨0x2E, .both, ⟨mn 'R' 'O' 'L', .absolute⟩⟩ f s)

/-- `0x39` AND, R93. -/
def execAndAby (f : OpFetch) (s : State) : Result :=
  .next (targetFetch ⟨0x39, .both, ⟨mn 'A' 'N' 'D', .absoluteY⟩⟩ f s)

/-- `0x3C` BIT, R92, extended variant (R59). -/
def execBitAbx (f : OpFetch) (s : State) : Result :=
  .next (targetFetch ⟨0x3C, .extendedOnly, ⟨mn 'B' 'I' 'T', .absoluteX⟩⟩ f s)

/-- `0x3D` AND, R92. -/
def execAndAbx (f : OpFetch) (s : State) : Result :=
  .next (targetFetch ⟨0x3D, .both, ⟨mn 'A' 'N' 'D', .absoluteX⟩⟩ f s)

/-- `0x3E` ROL, R92. -/
def execRolAbx (f : OpFetch) (s : State) : Result :=
  .next (targetFetch ⟨0x3E, .both, ⟨mn 'R' 'O' 'L', .absoluteX⟩⟩ f s)

/-- `0x4C` JMP, R75. -/
def execJmpAbs (f : OpFetch) (s : State) : Result :=
  .next (targetFetch ⟨0x4C, .both, ⟨mn 'J' 'M' 'P', .absolute⟩⟩ f s)

/-- `0x4D` EOR, R91. -/
def execEorAbs (f : OpFetch) (s : State) : Result :=
  .next (targetFetch ⟨0x4D, .both, ⟨mn 'E' 'O' 'R', .absolute⟩⟩ f s)

/-- `0x4E` LSR, R91. -/
def execLsrAbs (f : OpFetch) (s : State) : Result :=
  .next (targetFetch ⟨0x4E, .both, ⟨mn 'L' 'S' 'R', .absolute⟩⟩ f s)

/-- `0x59` EOR, R93. -/
def execEorAby (f : OpFetch) (s : State) : Result :=
  .next (targetFetch ⟨0x59, .both, ⟨mn 'E' 'O' 'R', .absoluteY⟩⟩ f s)

/-- `0x5D` EOR, R92. -/
def execEorAbx (f : OpFetch) (s : State) : Result :=
  .next (targetFetch ⟨0x5D, .both, ⟨mn 'E' 'O' 'R', .absoluteX⟩⟩ f s)

/-- `0x5E` LSR, R92. -/
def execLsrAbx (f : OpFetch) (s : State) : Result :=
  .next (targetFetch ⟨0x5E, .both, ⟨mn 'L' 'S' 'R', .absoluteX⟩⟩ f s)

/-- `0x6C` JMP, R94. -/
def execJmpInd (f : OpFetch) (s : State) : Result :=
  .next (targetFetch ⟨0x6C, .both, ⟨mn 'J' 'M' 'P', .absoluteIndirect16⟩⟩ f s)

/-- `0x6D` ADC, R91. -/
def execAdcAbs (f : OpFetch) (s : State) : Result :=
  .next (targetFetch ⟨0x6D, .both, ⟨mn 'A' 'D' 'C', .absolute⟩⟩ f s)

/-- `0x6E` ROR, R91. -/
def execRorAbs (f : OpFetch) (s : State) : Result :=
  .next (targetFetch ⟨0x6E, .both, ⟨mn 'R' 'O' 'R', .absolute⟩⟩ f s)

/-- `0x79` ADC, R93. -/
def execAdcAby (f : OpFetch) (s : State) : Result :=
  .next (targetFetch ⟨0x79, .both, ⟨mn 'A' 'D' 'C', .absoluteY⟩⟩ f s)

/-- `0x7C` JMP, R95, extended variant (R59). -/
def execJmpIax (f : OpFetch) (s : State) : Result :=
  .next (targetFetch ⟨0x7C, .extendedOnly, ⟨mn 'J' 'M' 'P', .absoluteIndirectX⟩⟩ f s)

/-- `0x7D` ADC, R92. -/
def execAdcAbx (f : OpFetch) (s : State) : Result :=
  .next (targetFetch ⟨0x7D, .both, ⟨mn 'A' 'D' 'C', .absoluteX⟩⟩ f s)

/-- `0x7E` ROR, R92. -/
def execRorAbx (f : OpFetch) (s : State) : Result :=
  .next (targetFetch ⟨0x7E, .both, ⟨mn 'R' 'O' 'R', .absoluteX⟩⟩ f s)

/-- `0x8C` STY, R91. -/
def execStyAbs (f : OpFetch) (s : State) : Result :=
  .next (targetFetch ⟨0x8C, .both, ⟨mn 'S' 'T' 'Y', .absolute⟩⟩ f s)

/-- `0x8D` STA, R91. -/
def execStaAbs (f : OpFetch) (s : State) : Result :=
  .next (targetFetch ⟨0x8D, .both, ⟨mn 'S' 'T' 'A', .absolute⟩⟩ f s)

/-- `0x8E` STX, R91. -/
def execStxAbs (f : OpFetch) (s : State) : Result :=
  .next (targetFetch ⟨0x8E, .both, ⟨mn 'S' 'T' 'X', .absolute⟩⟩ f s)

/-- `0x99` STA, R93. -/
def execStaAby (f : OpFetch) (s : State) : Result :=
  .next (targetFetch ⟨0x99, .both, ⟨mn 'S' 'T' 'A', .absoluteY⟩⟩ f s)

/-- `0x9C` STZ, R91, extended variant (R59). -/
def execStzAbs (f : OpFetch) (s : State) : Result :=
  .next (targetFetch ⟨0x9C, .extendedOnly, ⟨mn 'S' 'T' 'Z', .absolute⟩⟩ f s)

/-- `0x9D` STA, R92. -/
def execStaAbx (f : OpFetch) (s : State) : Result :=
  .next (targetFetch ⟨0x9D, .both, ⟨mn 'S' 'T' 'A', .absoluteX⟩⟩ f s)

/-- `0x9E` STZ, R92, extended variant (R59). -/
def execStzAbx (f : OpFetch) (s : State) : Result :=
  .next (targetFetch ⟨0x9E, .extendedOnly, ⟨mn 'S' 'T' 'Z', .absoluteX⟩⟩ f s)

/-- `0xAC` LDY, R91. -/
def execLdyAbs (f : OpFetch) (s : State) : Result :=
  .next (targetFetch ⟨0xAC, .both, ⟨mn 'L' 'D' 'Y', .absolute⟩⟩ f s)

/-- `0xAD` LDA, R91. -/
def execLdaAbs (f : OpFetch) (s : State) : Result :=
  .next (targetFetch ⟨0xAD, .both, ⟨mn 'L' 'D' 'A', .absolute⟩⟩ f s)

/-- `0xAE` LDX, R91. -/
def execLdxAbs (f : OpFetch) (s : State) : Result :=
  .next (targetFetch ⟨0xAE, .both, ⟨mn 'L' 'D' 'X', .absolute⟩⟩ f s)

/-- `0xB9` LDA, R93. -/
def execLdaAby (f : OpFetch) (s : State) : Result :=
  .next (targetFetch ⟨0xB9, .both, ⟨mn 'L' 'D' 'A', .absoluteY⟩⟩ f s)

/-- `0xBC` LDY, R92. -/
def execLdyAbx (f : OpFetch) (s : State) : Result :=
  .next (targetFetch ⟨0xBC, .both, ⟨mn 'L' 'D' 'Y', .absoluteX⟩⟩ f s)

/-- `0xBD` LDA, R92. -/
def execLdaAbx (f : OpFetch) (s : State) : Result :=
  .next (targetFetch ⟨0xBD, .both, ⟨mn 'L' 'D' 'A', .absoluteX⟩⟩ f s)

/-- `0xBE` LDX, R93. -/
def execLdxAby (f : OpFetch) (s : State) : Result :=
  .next (targetFetch ⟨0xBE, .both, ⟨mn 'L' 'D' 'X', .absoluteY⟩⟩ f s)

/-- `0xCC` CPY, R91. -/
def execCpyAbs (f : OpFetch) (s : State) : Result :=
  .next (targetFetch ⟨0xCC, .both, ⟨mn 'C' 'P' 'Y', .absolute⟩⟩ f s)

/-- `0xCD` CMP, R91. -/
def execCmpAbs (f : OpFetch) (s : State) : Result :=
  .next (targetFetch ⟨0xCD, .both, ⟨mn 'C' 'M' 'P', .absolute⟩⟩ f s)

/-- `0xCE` DEC, R91. -/
def execDecAbs (f : OpFetch) (s : State) : Result :=
  .next (targetFetch ⟨0xCE, .both, ⟨mn 'D' 'E' 'C', .absolute⟩⟩ f s)

/-- `0xD9` CMP, R93. -/
def execCmpAby (f : OpFetch) (s : State) : Result :=
  .next (targetFetch ⟨0xD9, .both, ⟨mn 'C' 'M' 'P', .absoluteY⟩⟩ f s)

/-- `0xDD` CMP, R92. -/
def execCmpAbx (f : OpFetch) (s : State) : Result :=
  .next (targetFetch ⟨0xDD, .both, ⟨mn 'C' 'M' 'P', .absoluteX⟩⟩ f s)

/-- `0xDE` DEC, R92. -/
def execDecAbx (f : OpFetch) (s : State) : Result :=
  .next (targetFetch ⟨0xDE, .both, ⟨mn 'D' 'E' 'C', .absoluteX⟩⟩ f s)

/-- `0xEC` CPX, R91. -/
def execCpxAbs (f : OpFetch) (s : State) : Result :=
  .next (targetFetch ⟨0xEC, .both, ⟨mn 'C' 'P' 'X', .absolute⟩⟩ f s)

/-- `0xED` SBC, R91. -/
def execSbcAbs (f : OpFetch) (s : State) : Result :=
  .next (targetFetch ⟨0xED, .both, ⟨mn 'S' 'B' 'C', .absolute⟩⟩ f s)

/-- `0xEE` INC, R91. -/
def execIncAbs (f : OpFetch) (s : State) : Result :=
  .next (targetFetch ⟨0xEE, .both, ⟨mn 'I' 'N' 'C', .absolute⟩⟩ f s)

/-- `0xF9` SBC, R93. -/
def execSbcAby (f : OpFetch) (s : State) : Result :=
  .next (targetFetch ⟨0xF9, .both, ⟨mn 'S' 'B' 'C', .absoluteY⟩⟩ f s)

/-- `0xFD` SBC, R92. -/
def execSbcAbx (f : OpFetch) (s : State) : Result :=
  .next (targetFetch ⟨0xFD, .both, ⟨mn 'S' 'B' 'C', .absoluteX⟩⟩ f s)

/-- `0xFE` INC, R92. -/
def execIncAbx (f : OpFetch) (s : State) : Result :=
  .next (targetFetch ⟨0xFE, .both, ⟨mn 'I' 'N' 'C', .absoluteX⟩⟩ f s)

end Sys2Proof.Machine
end

