-- ==== Sys2Proof/Machine/TargetImmediate.lean ====
section
/-! DEFINITION. The meanings of the target opcodes of mode Immediate (R84): each is its row of
spec/opcode_table.json, taken on its opcode-fetch cycle (R79). -/

namespace Sys2Proof.Machine

/-- `0x09` ORA, R84. -/
def execOraImm (f : OpFetch) (s : State) : Result :=
  .next (targetFetch ⟨0x09, .both, ⟨mn 'O' 'R' 'A', .immediate⟩⟩ f s)

/-- `0x29` AND, R84. -/
def execAndImm (f : OpFetch) (s : State) : Result :=
  .next (targetFetch ⟨0x29, .both, ⟨mn 'A' 'N' 'D', .immediate⟩⟩ f s)

/-- `0x49` EOR, R84. -/
def execEorImm (f : OpFetch) (s : State) : Result :=
  .next (targetFetch ⟨0x49, .both, ⟨mn 'E' 'O' 'R', .immediate⟩⟩ f s)

/-- `0x69` ADC, R84. -/
def execAdcImm (f : OpFetch) (s : State) : Result :=
  .next (targetFetch ⟨0x69, .both, ⟨mn 'A' 'D' 'C', .immediate⟩⟩ f s)

/-- `0x89` BIT, R84, extended variant (R59). -/
def execBitImm (f : OpFetch) (s : State) : Result :=
  .next (targetFetch ⟨0x89, .extendedOnly, ⟨mn 'B' 'I' 'T', .immediate⟩⟩ f s)

/-- `0xA0` LDY, R84. -/
def execLdyImm (f : OpFetch) (s : State) : Result :=
  .next (targetFetch ⟨0xA0, .both, ⟨mn 'L' 'D' 'Y', .immediate⟩⟩ f s)

/-- `0xA2` LDX, R84. -/
def execLdxImm (f : OpFetch) (s : State) : Result :=
  .next (targetFetch ⟨0xA2, .both, ⟨mn 'L' 'D' 'X', .immediate⟩⟩ f s)

/-- `0xA9` LDA, R74. -/
def execLdaImm (f : OpFetch) (s : State) : Result :=
  .next (targetFetch ⟨0xA9, .both, ⟨mn 'L' 'D' 'A', .immediate⟩⟩ f s)

/-- `0xC0` CPY, R84. -/
def execCpyImm (f : OpFetch) (s : State) : Result :=
  .next (targetFetch ⟨0xC0, .both, ⟨mn 'C' 'P' 'Y', .immediate⟩⟩ f s)

/-- `0xC9` CMP, R84. -/
def execCmpImm (f : OpFetch) (s : State) : Result :=
  .next (targetFetch ⟨0xC9, .both, ⟨mn 'C' 'M' 'P', .immediate⟩⟩ f s)

/-- `0xE0` CPX, R84. -/
def execCpxImm (f : OpFetch) (s : State) : Result :=
  .next (targetFetch ⟨0xE0, .both, ⟨mn 'C' 'P' 'X', .immediate⟩⟩ f s)

/-- `0xE9` SBC, R84. -/
def execSbcImm (f : OpFetch) (s : State) : Result :=
  .next (targetFetch ⟨0xE9, .both, ⟨mn 'S' 'B' 'C', .immediate⟩⟩ f s)

end Sys2Proof.Machine
end

