-- ==== Sys2Proof/Machine/TargetImplied.lean ====
section
/-! DEFINITION. The meanings of the target opcodes of the one-byte modes Implied (R81) and ImpliedAccumulator (R82): each is its row of
spec/opcode_table.json, taken on its opcode-fetch cycle (R79). -/

namespace Sys2Proof.Machine

/-- `0x00` BRK, R81. -/
def execBrkImp (f : OpFetch) (s : State) : Result :=
  .next (targetFetch ⟨0x00, .both, ⟨mn 'B' 'R' 'K', .implied⟩⟩ f s)

/-- `0x08` PHP, R81. -/
def execPhpImp (f : OpFetch) (s : State) : Result :=
  .next (targetFetch ⟨0x08, .both, ⟨mn 'P' 'H' 'P', .implied⟩⟩ f s)

/-- `0x0A` ASL, R82. -/
def execAslAcc (f : OpFetch) (s : State) : Result :=
  .next (targetFetch ⟨0x0A, .both, ⟨mn 'A' 'S' 'L', .impliedAccumulator⟩⟩ f s)

/-- `0x18` CLC, R81. -/
def execClcImp (f : OpFetch) (s : State) : Result :=
  .next (targetFetch ⟨0x18, .both, ⟨mn 'C' 'L' 'C', .implied⟩⟩ f s)

/-- `0x1A` INC, R82, extended variant (R59). -/
def execIncAcc (f : OpFetch) (s : State) : Result :=
  .next (targetFetch ⟨0x1A, .extendedOnly, ⟨mn 'I' 'N' 'C', .impliedAccumulator⟩⟩ f s)

/-- `0x28` PLP, R81. -/
def execPlpImp (f : OpFetch) (s : State) : Result :=
  .next (targetFetch ⟨0x28, .both, ⟨mn 'P' 'L' 'P', .implied⟩⟩ f s)

/-- `0x2A` ROL, R82. -/
def execRolAcc (f : OpFetch) (s : State) : Result :=
  .next (targetFetch ⟨0x2A, .both, ⟨mn 'R' 'O' 'L', .impliedAccumulator⟩⟩ f s)

/-- `0x38` SEC, R81. -/
def execSecImp (f : OpFetch) (s : State) : Result :=
  .next (targetFetch ⟨0x38, .both, ⟨mn 'S' 'E' 'C', .implied⟩⟩ f s)

/-- `0x3A` DEC, R82, extended variant (R59). -/
def execDecAcc (f : OpFetch) (s : State) : Result :=
  .next (targetFetch ⟨0x3A, .extendedOnly, ⟨mn 'D' 'E' 'C', .impliedAccumulator⟩⟩ f s)

/-- `0x40` RTI, R81. -/
def execRtiImp (f : OpFetch) (s : State) : Result :=
  .next (targetFetch ⟨0x40, .both, ⟨mn 'R' 'T' 'I', .implied⟩⟩ f s)

/-- `0x48` PHA, R81. -/
def execPhaImp (f : OpFetch) (s : State) : Result :=
  .next (targetFetch ⟨0x48, .both, ⟨mn 'P' 'H' 'A', .implied⟩⟩ f s)

/-- `0x4A` LSR, R82. -/
def execLsrAcc (f : OpFetch) (s : State) : Result :=
  .next (targetFetch ⟨0x4A, .both, ⟨mn 'L' 'S' 'R', .impliedAccumulator⟩⟩ f s)

/-- `0x58` CLI, R81. -/
def execCliImp (f : OpFetch) (s : State) : Result :=
  .next (targetFetch ⟨0x58, .both, ⟨mn 'C' 'L' 'I', .implied⟩⟩ f s)

/-- `0x5A` PHY, R81, extended variant (R59). -/
def execPhyImp (f : OpFetch) (s : State) : Result :=
  .next (targetFetch ⟨0x5A, .extendedOnly, ⟨mn 'P' 'H' 'Y', .implied⟩⟩ f s)

/-- `0x60` RTS, R81. -/
def execRtsImp (f : OpFetch) (s : State) : Result :=
  .next (targetFetch ⟨0x60, .both, ⟨mn 'R' 'T' 'S', .implied⟩⟩ f s)

/-- `0x68` PLA, R81. -/
def execPlaImp (f : OpFetch) (s : State) : Result :=
  .next (targetFetch ⟨0x68, .both, ⟨mn 'P' 'L' 'A', .implied⟩⟩ f s)

/-- `0x6A` ROR, R82. -/
def execRorAcc (f : OpFetch) (s : State) : Result :=
  .next (targetFetch ⟨0x6A, .both, ⟨mn 'R' 'O' 'R', .impliedAccumulator⟩⟩ f s)

/-- `0x78` SEI, R81. -/
def execSeiImp (f : OpFetch) (s : State) : Result :=
  .next (targetFetch ⟨0x78, .both, ⟨mn 'S' 'E' 'I', .implied⟩⟩ f s)

/-- `0x7A` PLY, R81, extended variant (R59). -/
def execPlyImp (f : OpFetch) (s : State) : Result :=
  .next (targetFetch ⟨0x7A, .extendedOnly, ⟨mn 'P' 'L' 'Y', .implied⟩⟩ f s)

/-- `0x88` DEY, R81. -/
def execDeyImp (f : OpFetch) (s : State) : Result :=
  .next (targetFetch ⟨0x88, .both, ⟨mn 'D' 'E' 'Y', .implied⟩⟩ f s)

/-- `0x8A` TXA, R81. -/
def execTxaImp (f : OpFetch) (s : State) : Result :=
  .next (targetFetch ⟨0x8A, .both, ⟨mn 'T' 'X' 'A', .implied⟩⟩ f s)

/-- `0x98` TYA, R81. -/
def execTyaImp (f : OpFetch) (s : State) : Result :=
  .next (targetFetch ⟨0x98, .both, ⟨mn 'T' 'Y' 'A', .implied⟩⟩ f s)

/-- `0x9A` TXS, R81. -/
def execTxsImp (f : OpFetch) (s : State) : Result :=
  .next (targetFetch ⟨0x9A, .both, ⟨mn 'T' 'X' 'S', .implied⟩⟩ f s)

/-- `0xA8` TAY, R81. -/
def execTayImp (f : OpFetch) (s : State) : Result :=
  .next (targetFetch ⟨0xA8, .both, ⟨mn 'T' 'A' 'Y', .implied⟩⟩ f s)

/-- `0xAA` TAX, R81. -/
def execTaxImp (f : OpFetch) (s : State) : Result :=
  .next (targetFetch ⟨0xAA, .both, ⟨mn 'T' 'A' 'X', .implied⟩⟩ f s)

/-- `0xB8` CLV, R81. -/
def execClvImp (f : OpFetch) (s : State) : Result :=
  .next (targetFetch ⟨0xB8, .both, ⟨mn 'C' 'L' 'V', .implied⟩⟩ f s)

/-- `0xBA` TSX, R81. -/
def execTsxImp (f : OpFetch) (s : State) : Result :=
  .next (targetFetch ⟨0xBA, .both, ⟨mn 'T' 'S' 'X', .implied⟩⟩ f s)

/-- `0xC8` INY, R81. -/
def execInyImp (f : OpFetch) (s : State) : Result :=
  .next (targetFetch ⟨0xC8, .both, ⟨mn 'I' 'N' 'Y', .implied⟩⟩ f s)

/-- `0xCA` DEX, R81. -/
def execDexImp (f : OpFetch) (s : State) : Result :=
  .next (targetFetch ⟨0xCA, .both, ⟨mn 'D' 'E' 'X', .implied⟩⟩ f s)

/-- `0xD8` CLD, R81. -/
def execCldImp (f : OpFetch) (s : State) : Result :=
  .next (targetFetch ⟨0xD8, .both, ⟨mn 'C' 'L' 'D', .implied⟩⟩ f s)

/-- `0xDA` PHX, R81, extended variant (R59). -/
def execPhxImp (f : OpFetch) (s : State) : Result :=
  .next (targetFetch ⟨0xDA, .extendedOnly, ⟨mn 'P' 'H' 'X', .implied⟩⟩ f s)

/-- `0xE8` INX, R81. -/
def execInxImp (f : OpFetch) (s : State) : Result :=
  .next (targetFetch ⟨0xE8, .both, ⟨mn 'I' 'N' 'X', .implied⟩⟩ f s)

/-- `0xEA` NOP, R81. -/
def execNopImp (f : OpFetch) (s : State) : Result :=
  .next (targetFetch ⟨0xEA, .both, ⟨mn 'N' 'O' 'P', .implied⟩⟩ f s)

/-- `0xF8` SED, R81. -/
def execSedImp (f : OpFetch) (s : State) : Result :=
  .next (targetFetch ⟨0xF8, .both, ⟨mn 'S' 'E' 'D', .implied⟩⟩ f s)

/-- `0xFA` PLX, R81, extended variant (R59). -/
def execPlxImp (f : OpFetch) (s : State) : Result :=
  .next (targetFetch ⟨0xFA, .extendedOnly, ⟨mn 'P' 'L' 'X', .implied⟩⟩ f s)

end Sys2Proof.Machine
end

