-- ==== Sys2Proof/Machine/TargetIndirect.lean ====
section
/-! DEFINITION. The meanings of the target opcodes of modes IndexedIndirect, IndirectIndexed, Indirect (R88 to R90): each is its row of
spec/opcode_table.json, taken on its opcode-fetch cycle (R79). -/

namespace Sys2Proof.Machine

/-- `0x01` ORA, R88. -/
def execOraIzx (f : OpFetch) (s : State) : Result :=
  .next (targetFetch ⟨0x01, .both, ⟨mn 'O' 'R' 'A', .indexedIndirect⟩⟩ f s)

/-- `0x11` ORA, R89. -/
def execOraIzy (f : OpFetch) (s : State) : Result :=
  .next (targetFetch ⟨0x11, .both, ⟨mn 'O' 'R' 'A', .indirectIndexed⟩⟩ f s)

/-- `0x12` ORA, R90, extended variant (R59). -/
def execOraIzp (f : OpFetch) (s : State) : Result :=
  .next (targetFetch ⟨0x12, .extendedOnly, ⟨mn 'O' 'R' 'A', .indirect⟩⟩ f s)

/-- `0x21` AND, R88. -/
def execAndIzx (f : OpFetch) (s : State) : Result :=
  .next (targetFetch ⟨0x21, .both, ⟨mn 'A' 'N' 'D', .indexedIndirect⟩⟩ f s)

/-- `0x31` AND, R89. -/
def execAndIzy (f : OpFetch) (s : State) : Result :=
  .next (targetFetch ⟨0x31, .both, ⟨mn 'A' 'N' 'D', .indirectIndexed⟩⟩ f s)

/-- `0x32` AND, R90, extended variant (R59). -/
def execAndIzp (f : OpFetch) (s : State) : Result :=
  .next (targetFetch ⟨0x32, .extendedOnly, ⟨mn 'A' 'N' 'D', .indirect⟩⟩ f s)

/-- `0x41` EOR, R88. -/
def execEorIzx (f : OpFetch) (s : State) : Result :=
  .next (targetFetch ⟨0x41, .both, ⟨mn 'E' 'O' 'R', .indexedIndirect⟩⟩ f s)

/-- `0x51` EOR, R89. -/
def execEorIzy (f : OpFetch) (s : State) : Result :=
  .next (targetFetch ⟨0x51, .both, ⟨mn 'E' 'O' 'R', .indirectIndexed⟩⟩ f s)

/-- `0x52` EOR, R90, extended variant (R59). -/
def execEorIzp (f : OpFetch) (s : State) : Result :=
  .next (targetFetch ⟨0x52, .extendedOnly, ⟨mn 'E' 'O' 'R', .indirect⟩⟩ f s)

/-- `0x61` ADC, R88. -/
def execAdcIzx (f : OpFetch) (s : State) : Result :=
  .next (targetFetch ⟨0x61, .both, ⟨mn 'A' 'D' 'C', .indexedIndirect⟩⟩ f s)

/-- `0x71` ADC, R89. -/
def execAdcIzy (f : OpFetch) (s : State) : Result :=
  .next (targetFetch ⟨0x71, .both, ⟨mn 'A' 'D' 'C', .indirectIndexed⟩⟩ f s)

/-- `0x72` ADC, R90, extended variant (R59). -/
def execAdcIzp (f : OpFetch) (s : State) : Result :=
  .next (targetFetch ⟨0x72, .extendedOnly, ⟨mn 'A' 'D' 'C', .indirect⟩⟩ f s)

/-- `0x81` STA, R88. -/
def execStaIzx (f : OpFetch) (s : State) : Result :=
  .next (targetFetch ⟨0x81, .both, ⟨mn 'S' 'T' 'A', .indexedIndirect⟩⟩ f s)

/-- `0x91` STA, R89. -/
def execStaIzy (f : OpFetch) (s : State) : Result :=
  .next (targetFetch ⟨0x91, .both, ⟨mn 'S' 'T' 'A', .indirectIndexed⟩⟩ f s)

/-- `0x92` STA, R90, extended variant (R59). -/
def execStaIzp (f : OpFetch) (s : State) : Result :=
  .next (targetFetch ⟨0x92, .extendedOnly, ⟨mn 'S' 'T' 'A', .indirect⟩⟩ f s)

/-- `0xA1` LDA, R88. -/
def execLdaIzx (f : OpFetch) (s : State) : Result :=
  .next (targetFetch ⟨0xA1, .both, ⟨mn 'L' 'D' 'A', .indexedIndirect⟩⟩ f s)

/-- `0xB1` LDA, R89. -/
def execLdaIzy (f : OpFetch) (s : State) : Result :=
  .next (targetFetch ⟨0xB1, .both, ⟨mn 'L' 'D' 'A', .indirectIndexed⟩⟩ f s)

/-- `0xB2` LDA, R90, extended variant (R59). -/
def execLdaIzp (f : OpFetch) (s : State) : Result :=
  .next (targetFetch ⟨0xB2, .extendedOnly, ⟨mn 'L' 'D' 'A', .indirect⟩⟩ f s)

/-- `0xC1` CMP, R88. -/
def execCmpIzx (f : OpFetch) (s : State) : Result :=
  .next (targetFetch ⟨0xC1, .both, ⟨mn 'C' 'M' 'P', .indexedIndirect⟩⟩ f s)

/-- `0xD1` CMP, R89. -/
def execCmpIzy (f : OpFetch) (s : State) : Result :=
  .next (targetFetch ⟨0xD1, .both, ⟨mn 'C' 'M' 'P', .indirectIndexed⟩⟩ f s)

/-- `0xD2` CMP, R90, extended variant (R59). -/
def execCmpIzp (f : OpFetch) (s : State) : Result :=
  .next (targetFetch ⟨0xD2, .extendedOnly, ⟨mn 'C' 'M' 'P', .indirect⟩⟩ f s)

/-- `0xE1` SBC, R88. -/
def execSbcIzx (f : OpFetch) (s : State) : Result :=
  .next (targetFetch ⟨0xE1, .both, ⟨mn 'S' 'B' 'C', .indexedIndirect⟩⟩ f s)

/-- `0xF1` SBC, R89. -/
def execSbcIzy (f : OpFetch) (s : State) : Result :=
  .next (targetFetch ⟨0xF1, .both, ⟨mn 'S' 'B' 'C', .indirectIndexed⟩⟩ f s)

/-- `0xF2` SBC, R90, extended variant (R59). -/
def execSbcIzp (f : OpFetch) (s : State) : Result :=
  .next (targetFetch ⟨0xF2, .extendedOnly, ⟨mn 'S' 'B' 'C', .indirect⟩⟩ f s)

end Sys2Proof.Machine
end

