-- ==== Sys2Proof/Machine/TargetRelative.lean ====
section
/-! DEFINITION. The meanings of the target opcodes of mode Relative (R83, R98): each is its row of
spec/opcode_table.json, taken on its opcode-fetch cycle (R79). -/

namespace Sys2Proof.Machine

/-- `0x10` BPL, R76. -/
def execBplRel (f : OpFetch) (s : State) : Result :=
  .next (targetFetch ⟨0x10, .both, ⟨mn 'B' 'P' 'L', .relative⟩⟩ f s)

/-- `0x30` BMI, R83. -/
def execBmiRel (f : OpFetch) (s : State) : Result :=
  .next (targetFetch ⟨0x30, .both, ⟨mn 'B' 'M' 'I', .relative⟩⟩ f s)

/-- `0x50` BVC, R83. -/
def execBvcRel (f : OpFetch) (s : State) : Result :=
  .next (targetFetch ⟨0x50, .both, ⟨mn 'B' 'V' 'C', .relative⟩⟩ f s)

/-- `0x70` BVS, R83. -/
def execBvsRel (f : OpFetch) (s : State) : Result :=
  .next (targetFetch ⟨0x70, .both, ⟨mn 'B' 'V' 'S', .relative⟩⟩ f s)

/-- `0x80` BRA, R83, extended variant (R59). -/
def execBraRel (f : OpFetch) (s : State) : Result :=
  .next (targetFetch ⟨0x80, .extendedOnly, ⟨mn 'B' 'R' 'A', .relative⟩⟩ f s)

/-- `0x90` BCC, R83. -/
def execBccRel (f : OpFetch) (s : State) : Result :=
  .next (targetFetch ⟨0x90, .both, ⟨mn 'B' 'C' 'C', .relative⟩⟩ f s)

/-- `0xB0` BCS, R83. -/
def execBcsRel (f : OpFetch) (s : State) : Result :=
  .next (targetFetch ⟨0xB0, .both, ⟨mn 'B' 'C' 'S', .relative⟩⟩ f s)

/-- `0xD0` BNE, R83. -/
def execBneRel (f : OpFetch) (s : State) : Result :=
  .next (targetFetch ⟨0xD0, .both, ⟨mn 'B' 'N' 'E', .relative⟩⟩ f s)

/-- `0xF0` BEQ, R83. -/
def execBeqRel (f : OpFetch) (s : State) : Result :=
  .next (targetFetch ⟨0xF0, .both, ⟨mn 'B' 'E' 'Q', .relative⟩⟩ f s)

end Sys2Proof.Machine
end

