-- ==== Sys2Proof/Machine/TargetUnknown.lean ====
section
/-! DEFINITION. The meanings of the target opcodes whose mnemonic is the unknown marker (R73, R77): each is its row of
spec/opcode_table.json, taken on its opcode-fetch cycle (R79). -/

namespace Sys2Proof.Machine

/-- `0x02` ???, R77. -/
def execUnk02 (f : OpFetch) (s : State) : Result :=
  .next (targetFetch ⟨0x02, .both, ⟨mn '?' '?' '?', .implied⟩⟩ f s)

/-- `0x04` ???, R73, base variant (R59). -/
def execUnkBase04 (f : OpFetch) (s : State) : Result :=
  .next (targetFetch ⟨0x04, .baseOnly, ⟨mn '?' '?' '?', .implied⟩⟩ f s)

/-- `0x0C` ???, R73, base variant (R59). -/
def execUnkBase0C (f : OpFetch) (s : State) : Result :=
  .next (targetFetch ⟨0x0C, .baseOnly, ⟨mn '?' '?' '?', .implied⟩⟩ f s)

/-- `0x12` ???, R73, base variant (R59). -/
def execUnkBase12 (f : OpFetch) (s : State) : Result :=
  .next (targetFetch ⟨0x12, .baseOnly, ⟨mn '?' '?' '?', .implied⟩⟩ f s)

/-- `0x14` ???, R73, base variant (R59). -/
def execUnkBase14 (f : OpFetch) (s : State) : Result :=
  .next (targetFetch ⟨0x14, .baseOnly, ⟨mn '?' '?' '?', .implied⟩⟩ f s)

/-- `0x1A` ???, R73, base variant (R59). -/
def execUnkBase1A (f : OpFetch) (s : State) : Result :=
  .next (targetFetch ⟨0x1A, .baseOnly, ⟨mn '?' '?' '?', .implied⟩⟩ f s)

/-- `0x1C` ???, R73, base variant (R59). -/
def execUnkBase1C (f : OpFetch) (s : State) : Result :=
  .next (targetFetch ⟨0x1C, .baseOnly, ⟨mn '?' '?' '?', .implied⟩⟩ f s)

/-- `0x32` ???, R73, base variant (R59). -/
def execUnkBase32 (f : OpFetch) (s : State) : Result :=
  .next (targetFetch ⟨0x32, .baseOnly, ⟨mn '?' '?' '?', .implied⟩⟩ f s)

/-- `0x34` ???, R73, base variant (R59). -/
def execUnkBase34 (f : OpFetch) (s : State) : Result :=
  .next (targetFetch ⟨0x34, .baseOnly, ⟨mn '?' '?' '?', .implied⟩⟩ f s)

/-- `0x3A` ???, R73, base variant (R59). -/
def execUnkBase3A (f : OpFetch) (s : State) : Result :=
  .next (targetFetch ⟨0x3A, .baseOnly, ⟨mn '?' '?' '?', .implied⟩⟩ f s)

/-- `0x3C` ???, R73, base variant (R59). -/
def execUnkBase3C (f : OpFetch) (s : State) : Result :=
  .next (targetFetch ⟨0x3C, .baseOnly, ⟨mn '?' '?' '?', .implied⟩⟩ f s)

/-- `0x52` ???, R73, base variant (R59). -/
def execUnkBase52 (f : OpFetch) (s : State) : Result :=
  .next (targetFetch ⟨0x52, .baseOnly, ⟨mn '?' '?' '?', .implied⟩⟩ f s)

/-- `0x5A` ???, R73, base variant (R59). -/
def execUnkBase5A (f : OpFetch) (s : State) : Result :=
  .next (targetFetch ⟨0x5A, .baseOnly, ⟨mn '?' '?' '?', .implied⟩⟩ f s)

/-- `0x64` ???, R73, base variant (R59). -/
def execUnkBase64 (f : OpFetch) (s : State) : Result :=
  .next (targetFetch ⟨0x64, .baseOnly, ⟨mn '?' '?' '?', .implied⟩⟩ f s)

/-- `0x72` ???, R73, base variant (R59). -/
def execUnkBase72 (f : OpFetch) (s : State) : Result :=
  .next (targetFetch ⟨0x72, .baseOnly, ⟨mn '?' '?' '?', .implied⟩⟩ f s)

/-- `0x74` ???, R73, base variant (R59). -/
def execUnkBase74 (f : OpFetch) (s : State) : Result :=
  .next (targetFetch ⟨0x74, .baseOnly, ⟨mn '?' '?' '?', .implied⟩⟩ f s)

/-- `0x7A` ???, R73, base variant (R59). -/
def execUnkBase7A (f : OpFetch) (s : State) : Result :=
  .next (targetFetch ⟨0x7A, .baseOnly, ⟨mn '?' '?' '?', .implied⟩⟩ f s)

/-- `0x7C` ???, R73, base variant (R59). -/
def execUnkBase7C (f : OpFetch) (s : State) : Result :=
  .next (targetFetch ⟨0x7C, .baseOnly, ⟨mn '?' '?' '?', .implied⟩⟩ f s)

/-- `0x80` ???, R73, base variant (R59). -/
def execUnkBase80 (f : OpFetch) (s : State) : Result :=
  .next (targetFetch ⟨0x80, .baseOnly, ⟨mn '?' '?' '?', .implied⟩⟩ f s)

/-- `0x89` ???, R73, base variant (R59). -/
def execUnkBase89 (f : OpFetch) (s : State) : Result :=
  .next (targetFetch ⟨0x89, .baseOnly, ⟨mn '?' '?' '?', .implied⟩⟩ f s)

/-- `0x92` ???, R73, base variant (R59). -/
def execUnkBase92 (f : OpFetch) (s : State) : Result :=
  .next (targetFetch ⟨0x92, .baseOnly, ⟨mn '?' '?' '?', .implied⟩⟩ f s)

/-- `0x9C` ???, R73, base variant (R59). -/
def execUnkBase9C (f : OpFetch) (s : State) : Result :=
  .next (targetFetch ⟨0x9C, .baseOnly, ⟨mn '?' '?' '?', .implied⟩⟩ f s)

/-- `0x9E` ???, R73, base variant (R59). -/
def execUnkBase9E (f : OpFetch) (s : State) : Result :=
  .next (targetFetch ⟨0x9E, .baseOnly, ⟨mn '?' '?' '?', .implied⟩⟩ f s)

/-- `0xB2` ???, R73, base variant (R59). -/
def execUnkBaseB2 (f : OpFetch) (s : State) : Result :=
  .next (targetFetch ⟨0xB2, .baseOnly, ⟨mn '?' '?' '?', .implied⟩⟩ f s)

/-- `0xD2` ???, R73, base variant (R59). -/
def execUnkBaseD2 (f : OpFetch) (s : State) : Result :=
  .next (targetFetch ⟨0xD2, .baseOnly, ⟨mn '?' '?' '?', .implied⟩⟩ f s)

/-- `0xDA` ???, R73, base variant (R59). -/
def execUnkBaseDA (f : OpFetch) (s : State) : Result :=
  .next (targetFetch ⟨0xDA, .baseOnly, ⟨mn '?' '?' '?', .implied⟩⟩ f s)

/-- `0xF2` ???, R73, base variant (R59). -/
def execUnkBaseF2 (f : OpFetch) (s : State) : Result :=
  .next (targetFetch ⟨0xF2, .baseOnly, ⟨mn '?' '?' '?', .implied⟩⟩ f s)

/-- `0xFA` ???, R73, base variant (R59). -/
def execUnkBaseFA (f : OpFetch) (s : State) : Result :=
  .next (targetFetch ⟨0xFA, .baseOnly, ⟨mn '?' '?' '?', .implied⟩⟩ f s)

/-- The other 77 unknown opcodes of both variants (R73). -/
def execUnknown (op : Byte) (f : OpFetch) (s : State) : Result :=
  .next (targetFetch ⟨op, .both, ⟨mn '?' '?' '?', .implied⟩⟩ f s)

end Sys2Proof.Machine
end

