-- ==== Sys2Proof/Machine/TargetZeroPage.lean ====
section
/-! DEFINITION. The meanings of the target opcodes of modes ZeroPage, ZeroPageX, ZeroPageY (R85 to R87): each is its row of
spec/opcode_table.json, taken on its opcode-fetch cycle (R79). -/

namespace Sys2Proof.Machine

/-- `0x04` TSB, R85, extended variant (R59). -/
def execTsbZp (f : OpFetch) (s : State) : Result :=
  .next (targetFetch ⟨0x04, .extendedOnly, ⟨mn 'T' 'S' 'B', .zeroPage⟩⟩ f s)

/-- `0x05` ORA, R85. -/
def execOraZp (f : OpFetch) (s : State) : Result :=
  .next (targetFetch ⟨0x05, .both, ⟨mn 'O' 'R' 'A', .zeroPage⟩⟩ f s)

/-- `0x06` ASL, R85. -/
def execAslZp (f : OpFetch) (s : State) : Result :=
  .next (targetFetch ⟨0x06, .both, ⟨mn 'A' 'S' 'L', .zeroPage⟩⟩ f s)

/-- `0x14` TRB, R85, extended variant (R59). -/
def execTrbZp (f : OpFetch) (s : State) : Result :=
  .next (targetFetch ⟨0x14, .extendedOnly, ⟨mn 'T' 'R' 'B', .zeroPage⟩⟩ f s)

/-- `0x15` ORA, R86. -/
def execOraZpx (f : OpFetch) (s : State) : Result :=
  .next (targetFetch ⟨0x15, .both, ⟨mn 'O' 'R' 'A', .zeroPageX⟩⟩ f s)

/-- `0x16` ASL, R86. -/
def execAslZpx (f : OpFetch) (s : State) : Result :=
  .next (targetFetch ⟨0x16, .both, ⟨mn 'A' 'S' 'L', .zeroPageX⟩⟩ f s)

/-- `0x24` BIT, R85. -/
def execBitZp (f : OpFetch) (s : State) : Result :=
  .next (targetFetch ⟨0x24, .both, ⟨mn 'B' 'I' 'T', .zeroPage⟩⟩ f s)

/-- `0x25` AND, R85. -/
def execAndZp (f : OpFetch) (s : State) : Result :=
  .next (targetFetch ⟨0x25, .both, ⟨mn 'A' 'N' 'D', .zeroPage⟩⟩ f s)

/-- `0x26` ROL, R85. -/
def execRolZp (f : OpFetch) (s : State) : Result :=
  .next (targetFetch ⟨0x26, .both, ⟨mn 'R' 'O' 'L', .zeroPage⟩⟩ f s)

/-- `0x34` BIT, R86, extended variant (R59). -/
def execBitZpx (f : OpFetch) (s : State) : Result :=
  .next (targetFetch ⟨0x34, .extendedOnly, ⟨mn 'B' 'I' 'T', .zeroPageX⟩⟩ f s)

/-- `0x35` AND, R86. -/
def execAndZpx (f : OpFetch) (s : State) : Result :=
  .next (targetFetch ⟨0x35, .both, ⟨mn 'A' 'N' 'D', .zeroPageX⟩⟩ f s)

/-- `0x36` ROL, R86. -/
def execRolZpx (f : OpFetch) (s : State) : Result :=
  .next (targetFetch ⟨0x36, .both, ⟨mn 'R' 'O' 'L', .zeroPageX⟩⟩ f s)

/-- `0x45` EOR, R85. -/
def execEorZp (f : OpFetch) (s : State) : Result :=
  .next (targetFetch ⟨0x45, .both, ⟨mn 'E' 'O' 'R', .zeroPage⟩⟩ f s)

/-- `0x46` LSR, R85. -/
def execLsrZp (f : OpFetch) (s : State) : Result :=
  .next (targetFetch ⟨0x46, .both, ⟨mn 'L' 'S' 'R', .zeroPage⟩⟩ f s)

/-- `0x55` EOR, R86. -/
def execEorZpx (f : OpFetch) (s : State) : Result :=
  .next (targetFetch ⟨0x55, .both, ⟨mn 'E' 'O' 'R', .zeroPageX⟩⟩ f s)

/-- `0x56` LSR, R86. -/
def execLsrZpx (f : OpFetch) (s : State) : Result :=
  .next (targetFetch ⟨0x56, .both, ⟨mn 'L' 'S' 'R', .zeroPageX⟩⟩ f s)

/-- `0x64` STZ, R85, extended variant (R59). -/
def execStzZp (f : OpFetch) (s : State) : Result :=
  .next (targetFetch ⟨0x64, .extendedOnly, ⟨mn 'S' 'T' 'Z', .zeroPage⟩⟩ f s)

/-- `0x65` ADC, R85. -/
def execAdcZp (f : OpFetch) (s : State) : Result :=
  .next (targetFetch ⟨0x65, .both, ⟨mn 'A' 'D' 'C', .zeroPage⟩⟩ f s)

/-- `0x66` ROR, R85. -/
def execRorZp (f : OpFetch) (s : State) : Result :=
  .next (targetFetch ⟨0x66, .both, ⟨mn 'R' 'O' 'R', .zeroPage⟩⟩ f s)

/-- `0x74` STZ, R86, extended variant (R59). -/
def execStzZpx (f : OpFetch) (s : State) : Result :=
  .next (targetFetch ⟨0x74, .extendedOnly, ⟨mn 'S' 'T' 'Z', .zeroPageX⟩⟩ f s)

/-- `0x75` ADC, R86. -/
def execAdcZpx (f : OpFetch) (s : State) : Result :=
  .next (targetFetch ⟨0x75, .both, ⟨mn 'A' 'D' 'C', .zeroPageX⟩⟩ f s)

/-- `0x76` ROR, R86. -/
def execRorZpx (f : OpFetch) (s : State) : Result :=
  .next (targetFetch ⟨0x76, .both, ⟨mn 'R' 'O' 'R', .zeroPageX⟩⟩ f s)

/-- `0x84` STY, R85. -/
def execStyZp (f : OpFetch) (s : State) : Result :=
  .next (targetFetch ⟨0x84, .both, ⟨mn 'S' 'T' 'Y', .zeroPage⟩⟩ f s)

/-- `0x85` STA, R85. -/
def execStaZp (f : OpFetch) (s : State) : Result :=
  .next (targetFetch ⟨0x85, .both, ⟨mn 'S' 'T' 'A', .zeroPage⟩⟩ f s)

/-- `0x86` STX, R85. -/
def execStxZp (f : OpFetch) (s : State) : Result :=
  .next (targetFetch ⟨0x86, .both, ⟨mn 'S' 'T' 'X', .zeroPage⟩⟩ f s)

/-- `0x94` STY, R86. -/
def execStyZpx (f : OpFetch) (s : State) : Result :=
  .next (targetFetch ⟨0x94, .both, ⟨mn 'S' 'T' 'Y', .zeroPageX⟩⟩ f s)

/-- `0x95` STA, R86. -/
def execStaZpx (f : OpFetch) (s : State) : Result :=
  .next (targetFetch ⟨0x95, .both, ⟨mn 'S' 'T' 'A', .zeroPageX⟩⟩ f s)

/-- `0x96` STX, R87. -/
def execStxZpy (f : OpFetch) (s : State) : Result :=
  .next (targetFetch ⟨0x96, .both, ⟨mn 'S' 'T' 'X', .zeroPageY⟩⟩ f s)

/-- `0xA4` LDY, R85. -/
def execLdyZp (f : OpFetch) (s : State) : Result :=
  .next (targetFetch ⟨0xA4, .both, ⟨mn 'L' 'D' 'Y', .zeroPage⟩⟩ f s)

/-- `0xA5` LDA, R85. -/
def execLdaZp (f : OpFetch) (s : State) : Result :=
  .next (targetFetch ⟨0xA5, .both, ⟨mn 'L' 'D' 'A', .zeroPage⟩⟩ f s)

/-- `0xA6` LDX, R85. -/
def execLdxZp (f : OpFetch) (s : State) : Result :=
  .next (targetFetch ⟨0xA6, .both, ⟨mn 'L' 'D' 'X', .zeroPage⟩⟩ f s)

/-- `0xB4` LDY, R86. -/
def execLdyZpx (f : OpFetch) (s : State) : Result :=
  .next (targetFetch ⟨0xB4, .both, ⟨mn 'L' 'D' 'Y', .zeroPageX⟩⟩ f s)

/-- `0xB5` LDA, R86. -/
def execLdaZpx (f : OpFetch) (s : State) : Result :=
  .next (targetFetch ⟨0xB5, .both, ⟨mn 'L' 'D' 'A', .zeroPageX⟩⟩ f s)

/-- `0xB6` LDX, R87. -/
def execLdxZpy (f : OpFetch) (s : State) : Result :=
  .next (targetFetch ⟨0xB6, .both, ⟨mn 'L' 'D' 'X', .zeroPageY⟩⟩ f s)

/-- `0xC4` CPY, R85. -/
def execCpyZp (f : OpFetch) (s : State) : Result :=
  .next (targetFetch ⟨0xC4, .both, ⟨mn 'C' 'P' 'Y', .zeroPage⟩⟩ f s)

/-- `0xC5` CMP, R85. -/
def execCmpZp (f : OpFetch) (s : State) : Result :=
  .next (targetFetch ⟨0xC5, .both, ⟨mn 'C' 'M' 'P', .zeroPage⟩⟩ f s)

/-- `0xC6` DEC, R85. -/
def execDecZp (f : OpFetch) (s : State) : Result :=
  .next (targetFetch ⟨0xC6, .both, ⟨mn 'D' 'E' 'C', .zeroPage⟩⟩ f s)

/-- `0xD5` CMP, R86. -/
def execCmpZpx (f : OpFetch) (s : State) : Result :=
  .next (targetFetch ⟨0xD5, .both, ⟨mn 'C' 'M' 'P', .zeroPageX⟩⟩ f s)

/-- `0xD6` DEC, R86. -/
def execDecZpx (f : OpFetch) (s : State) : Result :=
  .next (targetFetch ⟨0xD6, .both, ⟨mn 'D' 'E' 'C', .zeroPageX⟩⟩ f s)

/-- `0xE4` CPX, R85. -/
def execCpxZp (f : OpFetch) (s : State) : Result :=
  .next (targetFetch ⟨0xE4, .both, ⟨mn 'C' 'P' 'X', .zeroPage⟩⟩ f s)

/-- `0xE5` SBC, R85. -/
def execSbcZp (f : OpFetch) (s : State) : Result :=
  .next (targetFetch ⟨0xE5, .both, ⟨mn 'S' 'B' 'C', .zeroPage⟩⟩ f s)

/-- `0xE6` INC, R85. -/
def execIncZp (f : OpFetch) (s : State) : Result :=
  .next (targetFetch ⟨0xE6, .both, ⟨mn 'I' 'N' 'C', .zeroPage⟩⟩ f s)

/-- `0xF5` SBC, R86. -/
def execSbcZpx (f : OpFetch) (s : State) : Result :=
  .next (targetFetch ⟨0xF5, .both, ⟨mn 'S' 'B' 'C', .zeroPageX⟩⟩ f s)

/-- `0xF6` INC, R86. -/
def execIncZpx (f : OpFetch) (s : State) : Result :=
  .next (targetFetch ⟨0xF6, .both, ⟨mn 'I' 'N' 'C', .zeroPageX⟩⟩ f s)

end Sys2Proof.Machine
end

