-- ==== Sys2Proof/Machine/Dispatch.lean ====
section
/-! DEFINITION. `exec`: one arm per constructor of `Instr`. -/

namespace Sys2Proof.Machine

def exec (i : Instr) (s : State) : Host.Outcome State Fault Refusal :=
  match i with
  | .fetch c => Sys2Proof.Machine.execFetch c s
  | .read c => Sys2Proof.Machine.execRead c s
  | .write c => Sys2Proof.Machine.execWrite c s
  | .ambigInconsistent c => Sys2Proof.Machine.execAmbigInconsistent c s
  | .ambigSync sync rnw c => Sys2Proof.Machine.execAmbigSync sync rnw c s
  | .ambigRnw sync rnw c => Sys2Proof.Machine.execAmbigRnw sync rnw c s
  | .eos => Sys2Proof.Machine.execEos s
  | .reset variant strict => Sys2Proof.Machine.execReset variant strict s
  | .brkImp f => Sys2Proof.Machine.execBrkImp f s
  | .oraIzx f => Sys2Proof.Machine.execOraIzx f s
  | .unk02 f => Sys2Proof.Machine.execUnk02 f s
  | .tsbZp f => Sys2Proof.Machine.execTsbZp f s
  | .oraZp f => Sys2Proof.Machine.execOraZp f s
  | .aslZp f => Sys2Proof.Machine.execAslZp f s
  | .phpImp f => Sys2Proof.Machine.execPhpImp f s
  | .oraImm f => Sys2Proof.Machine.execOraImm f s
  | .aslAcc f => Sys2Proof.Machine.execAslAcc f s
  | .tsbAbs f => Sys2Proof.Machine.execTsbAbs f s
  | .oraAbs f => Sys2Proof.Machine.execOraAbs f s
  | .aslAbs f => Sys2Proof.Machine.execAslAbs f s
  | .bplRel f => Sys2Proof.Machine.execBplRel f s
  | .oraIzy f => Sys2Proof.Machine.execOraIzy f s
  | .oraIzp f => Sys2Proof.Machine.execOraIzp f s
  | .trbZp f => Sys2Proof.Machine.execTrbZp f s
  | .oraZpx f => Sys2Proof.Machine.execOraZpx f s
  | .aslZpx f => Sys2Proof.Machine.execAslZpx f s
  | .clcImp f => Sys2Proof.Machine.execClcImp f s
  | .oraAby f => Sys2Proof.Machine.execOraAby f s
  | .incAcc f => Sys2Proof.Machine.execIncAcc f s
  | .trbAbs f => Sys2Proof.Machine.execTrbAbs f s
  | .oraAbx f => Sys2Proof.Machine.execOraAbx f s
  | .aslAbx f => Sys2Proof.Machine.execAslAbx f s
  | .jsrAbs f => Sys2Proof.Machine.execJsrAbs f s
  | .andIzx f => Sys2Proof.Machine.execAndIzx f s
  | .bitZp f => Sys2Proof.Machine.execBitZp f s
  | .andZp f => Sys2Proof.Machine.execAndZp f s
  | .rolZp f => Sys2Proof.Machine.execRolZp f s
  | .plpImp f => Sys2Proof.Machine.execPlpImp f s
  | .andImm f => Sys2Proof.Machine.execAndImm f s
  | .rolAcc f => Sys2Proof.Machine.execRolAcc f s
  | .bitAbs f => Sys2Proof.Machine.execBitAbs f s
  | .andAbs f => Sys2Proof.Machine.execAndAbs f s
  | .rolAbs f => Sys2Proof.Machine.execRolAbs f s
  | .bmiRel f => Sys2Proof.Machine.execBmiRel f s
  | .andIzy f => Sys2Proof.Machine.execAndIzy f s
  | .andIzp f => Sys2Proof.Machine.execAndIzp f s
  | .bitZpx f => Sys2Proof.Machine.execBitZpx f s
  | .andZpx f => Sys2Proof.Machine.execAndZpx f s
  | .rolZpx f => Sys2Proof.Machine.execRolZpx f s
  | .secImp f => Sys2Proof.Machine.execSecImp f s
  | .andAby f => Sys2Proof.Machine.execAndAby f s
  | .decAcc f => Sys2Proof.Machine.execDecAcc f s
  | .bitAbx f => Sys2Proof.Machine.execBitAbx f s
  | .andAbx f => Sys2Proof.Machine.execAndAbx f s
  | .rolAbx f => Sys2Proof.Machine.execRolAbx f s
  | .rtiImp f => Sys2Proof.Machine.execRtiImp f s
  | .eorIzx f => Sys2Proof.Machine.execEorIzx f s
  | .eorZp f => Sys2Proof.Machine.execEorZp f s
  | .lsrZp f => Sys2Proof.Machine.execLsrZp f s
  | .phaImp f => Sys2Proof.Machine.execPhaImp f s
  | .eorImm f => Sys2Proof.Machine.execEorImm f s
  | .lsrAcc f => Sys2Proof.Machine.execLsrAcc f s
  | .jmpAbs f => Sys2Proof.Machine.execJmpAbs f s
  | .eorAbs f => Sys2Proof.Machine.execEorAbs f s
  | .lsrAbs f => Sys2Proof.Machine.execLsrAbs f s
  | .bvcRel f => Sys2Proof.Machine.execBvcRel f s
  | .eorIzy f => Sys2Proof.Machine.execEorIzy f s
  | .eorIzp f => Sys2Proof.Machine.execEorIzp f s
  | .eorZpx f => Sys2Proof.Machine.execEorZpx f s
  | .lsrZpx f => Sys2Proof.Machine.execLsrZpx f s
  | .cliImp f => Sys2Proof.Machine.execCliImp f s
  | .eorAby f => Sys2Proof.Machine.execEorAby f s
  | .phyImp f => Sys2Proof.Machine.execPhyImp f s
  | .eorAbx f => Sys2Proof.Machine.execEorAbx f s
  | .lsrAbx f => Sys2Proof.Machine.execLsrAbx f s
  | .rtsImp f => Sys2Proof.Machine.execRtsImp f s
  | .adcIzx f => Sys2Proof.Machine.execAdcIzx f s
  | .stzZp f => Sys2Proof.Machine.execStzZp f s
  | .adcZp f => Sys2Proof.Machine.execAdcZp f s
  | .rorZp f => Sys2Proof.Machine.execRorZp f s
  | .plaImp f => Sys2Proof.Machine.execPlaImp f s
  | .adcImm f => Sys2Proof.Machine.execAdcImm f s
  | .rorAcc f => Sys2Proof.Machine.execRorAcc f s
  | .jmpInd f => Sys2Proof.Machine.execJmpInd f s
  | .adcAbs f => Sys2Proof.Machine.execAdcAbs f s
  | .rorAbs f => Sys2Proof.Machine.execRorAbs f s
  | .bvsRel f => Sys2Proof.Machine.execBvsRel f s
  | .adcIzy f => Sys2Proof.Machine.execAdcIzy f s
  | .adcIzp f => Sys2Proof.Machine.execAdcIzp f s
  | .stzZpx f => Sys2Proof.Machine.execStzZpx f s
  | .adcZpx f => Sys2Proof.Machine.execAdcZpx f s
  | .rorZpx f => Sys2Proof.Machine.execRorZpx f s
  | .seiImp f => Sys2Proof.Machine.execSeiImp f s
  | .adcAby f => Sys2Proof.Machine.execAdcAby f s
  | .plyImp f => Sys2Proof.Machine.execPlyImp f s
  | .jmpIax f => Sys2Proof.Machine.execJmpIax f s
  | .adcAbx f => Sys2Proof.Machine.execAdcAbx f s
  | .rorAbx f => Sys2Proof.Machine.execRorAbx f s
  | .braRel f => Sys2Proof.Machine.execBraRel f s
  | .staIzx f => Sys2Proof.Machine.execStaIzx f s
  | .styZp f => Sys2Proof.Machine.execStyZp f s
  | .staZp f => Sys2Proof.Machine.execStaZp f s
  | .stxZp f => Sys2Proof.Machine.execStxZp f s
  | .deyImp f => Sys2Proof.Machine.execDeyImp f s
  | .bitImm f => Sys2Proof.Machine.execBitImm f s
  | .txaImp f => Sys2Proof.Machine.execTxaImp f s
  | .styAbs f => Sys2Proof.Machine.execStyAbs f s
  | .staAbs f => Sys2Proof.Machine.execStaAbs f s
  | .stxAbs f => Sys2Proof.Machine.execStxAbs f s
  | .bccRel f => Sys2Proof.Machine.execBccRel f s
  | .staIzy f => Sys2Proof.Machine.execStaIzy f s
  | .staIzp f => Sys2Proof.Machine.execStaIzp f s
  | .styZpx f => Sys2Proof.Machine.execStyZpx f s
  | .staZpx f => Sys2Proof.Machine.execStaZpx f s
  | .stxZpy f => Sys2Proof.Machine.execStxZpy f s
  | .tyaImp f => Sys2Proof.Machine.execTyaImp f s
  | .staAby f => Sys2Proof.Machine.execStaAby f s
  | .txsImp f => Sys2Proof.Machine.execTxsImp f s
  | .stzAbs f => Sys2Proof.Machine.execStzAbs f s
  | .staAbx f => Sys2Proof.Machine.execStaAbx f s
  | .stzAbx f => Sys2Proof.Machine.execStzAbx f s
  | .ldyImm f => Sys2Proof.Machine.execLdyImm f s
  | .ldaIzx f => Sys2Proof.Machine.execLdaIzx f s
  | .ldxImm f => Sys2Proof.Machine.execLdxImm f s
  | .ldyZp f => Sys2Proof.Machine.execLdyZp f s
  | .ldaZp f => Sys2Proof.Machine.execLdaZp f s
  | .ldxZp f => Sys2Proof.Machine.execLdxZp f s
  | .tayImp f => Sys2Proof.Machine.execTayImp f s
  | .ldaImm f => Sys2Proof.Machine.execLdaImm f s
  | .taxImp f => Sys2Proof.Machine.execTaxImp f s
  | .ldyAbs f => Sys2Proof.Machine.execLdyAbs f s
  | .ldaAbs f => Sys2Proof.Machine.execLdaAbs f s
  | .ldxAbs f => Sys2Proof.Machine.execLdxAbs f s
  | .bcsRel f => Sys2Proof.Machine.execBcsRel f s
  | .ldaIzy f => Sys2Proof.Machine.execLdaIzy f s
  | .ldaIzp f => Sys2Proof.Machine.execLdaIzp f s
  | .ldyZpx f => Sys2Proof.Machine.execLdyZpx f s
  | .ldaZpx f => Sys2Proof.Machine.execLdaZpx f s
  | .ldxZpy f => Sys2Proof.Machine.execLdxZpy f s
  | .clvImp f => Sys2Proof.Machine.execClvImp f s
  | .ldaAby f => Sys2Proof.Machine.execLdaAby f s
  | .tsxImp f => Sys2Proof.Machine.execTsxImp f s
  | .ldyAbx f => Sys2Proof.Machine.execLdyAbx f s
  | .ldaAbx f => Sys2Proof.Machine.execLdaAbx f s
  | .ldxAby f => Sys2Proof.Machine.execLdxAby f s
  | .cpyImm f => Sys2Proof.Machine.execCpyImm f s
  | .cmpIzx f => Sys2Proof.Machine.execCmpIzx f s
  | .cpyZp f => Sys2Proof.Machine.execCpyZp f s
  | .cmpZp f => Sys2Proof.Machine.execCmpZp f s
  | .decZp f => Sys2Proof.Machine.execDecZp f s
  | .inyImp f => Sys2Proof.Machine.execInyImp f s
  | .cmpImm f => Sys2Proof.Machine.execCmpImm f s
  | .dexImp f => Sys2Proof.Machine.execDexImp f s
  | .cpyAbs f => Sys2Proof.Machine.execCpyAbs f s
  | .cmpAbs f => Sys2Proof.Machine.execCmpAbs f s
  | .decAbs f => Sys2Proof.Machine.execDecAbs f s
  | .bneRel f => Sys2Proof.Machine.execBneRel f s
  | .cmpIzy f => Sys2Proof.Machine.execCmpIzy f s
  | .cmpIzp f => Sys2Proof.Machine.execCmpIzp f s
  | .cmpZpx f => Sys2Proof.Machine.execCmpZpx f s
  | .decZpx f => Sys2Proof.Machine.execDecZpx f s
  | .cldImp f => Sys2Proof.Machine.execCldImp f s
  | .cmpAby f => Sys2Proof.Machine.execCmpAby f s
  | .phxImp f => Sys2Proof.Machine.execPhxImp f s
  | .cmpAbx f => Sys2Proof.Machine.execCmpAbx f s
  | .decAbx f => Sys2Proof.Machine.execDecAbx f s
  | .cpxImm f => Sys2Proof.Machine.execCpxImm f s
  | .sbcIzx f => Sys2Proof.Machine.execSbcIzx f s
  | .cpxZp f => Sys2Proof.Machine.execCpxZp f s
  | .sbcZp f => Sys2Proof.Machine.execSbcZp f s
  | .incZp f => Sys2Proof.Machine.execIncZp f s
  | .inxImp f => Sys2Proof.Machine.execInxImp f s
  | .sbcImm f => Sys2Proof.Machine.execSbcImm f s
  | .nopImp f => Sys2Proof.Machine.execNopImp f s
  | .cpxAbs f => Sys2Proof.Machine.execCpxAbs f s
  | .sbcAbs f => Sys2Proof.Machine.execSbcAbs f s
  | .incAbs f => Sys2Proof.Machine.execIncAbs f s
  | .beqRel f => Sys2Proof.Machine.execBeqRel f s
  | .sbcIzy f => Sys2Proof.Machine.execSbcIzy f s
  | .sbcIzp f => Sys2Proof.Machine.execSbcIzp f s
  | .sbcZpx f => Sys2Proof.Machine.execSbcZpx f s
  | .incZpx f => Sys2Proof.Machine.execIncZpx f s
  | .sedImp f => Sys2Proof.Machine.execSedImp f s
  | .sbcAby f => Sys2Proof.Machine.execSbcAby f s
  | .plxImp f => Sys2Proof.Machine.execPlxImp f s
  | .sbcAbx f => Sys2Proof.Machine.execSbcAbx f s
  | .incAbx f => Sys2Proof.Machine.execIncAbx f s
  | .unkBase04 f => Sys2Proof.Machine.execUnkBase04 f s
  | .unkBase0C f => Sys2Proof.Machine.execUnkBase0C f s
  | .unkBase12 f => Sys2Proof.Machine.execUnkBase12 f s
  | .unkBase14 f => Sys2Proof.Machine.execUnkBase14 f s
  | .unkBase1A f => Sys2Proof.Machine.execUnkBase1A f s
  | .unkBase1C f => Sys2Proof.Machine.execUnkBase1C f s
  | .unkBase32 f => Sys2Proof.Machine.execUnkBase32 f s
  | .unkBase34 f => Sys2Proof.Machine.execUnkBase34 f s
  | .unkBase3A f => Sys2Proof.Machine.execUnkBase3A f s
  | .unkBase3C f => Sys2Proof.Machine.execUnkBase3C f s
  | .unkBase52 f => Sys2Proof.Machine.execUnkBase52 f s
  | .unkBase5A f => Sys2Proof.Machine.execUnkBase5A f s
  | .unkBase64 f => Sys2Proof.Machine.execUnkBase64 f s
  | .unkBase72 f => Sys2Proof.Machine.execUnkBase72 f s
  | .unkBase74 f => Sys2Proof.Machine.execUnkBase74 f s
  | .unkBase7A f => Sys2Proof.Machine.execUnkBase7A f s
  | .unkBase7C f => Sys2Proof.Machine.execUnkBase7C f s
  | .unkBase80 f => Sys2Proof.Machine.execUnkBase80 f s
  | .unkBase89 f => Sys2Proof.Machine.execUnkBase89 f s
  | .unkBase92 f => Sys2Proof.Machine.execUnkBase92 f s
  | .unkBase9C f => Sys2Proof.Machine.execUnkBase9C f s
  | .unkBase9E f => Sys2Proof.Machine.execUnkBase9E f s
  | .unkBaseB2 f => Sys2Proof.Machine.execUnkBaseB2 f s
  | .unkBaseD2 f => Sys2Proof.Machine.execUnkBaseD2 f s
  | .unkBaseDA f => Sys2Proof.Machine.execUnkBaseDA f s
  | .unkBaseF2 f => Sys2Proof.Machine.execUnkBaseF2 f s
  | .unkBaseFA f => Sys2Proof.Machine.execUnkBaseFA f s
  | .unknown op f => Sys2Proof.Machine.execUnknown op f s

end Sys2Proof.Machine
end

