-- ==== Sys2Proof/Machine/Stream.lean ====
section
/-! DEFINITION. The block as the pure function `step : Config -> State -> Event -> State x List Record` that R5 names, and
its runs over an input stream (R38, R42, R120). -/

namespace Sys2Proof.Machine

/-- An input event (R120, R63): a raw cycle, end-of-stream, or reset with the levels of the configuration pins. -/
inductive Event where
  | raw (ts : Timestamp) (word : RawWord)
  | eos
  | reset (variant strict : BitVec 1)
  deriving DecidableEq, Repr

/-- Dispatch on the kind of a classified cycle (R120); each event is a function of the state tag. -/
def cycleStep (P : Params) (c : BusCycle) (s : State) : State :=
  match c.kind with
  | .fetch => fetchCycle P c.toCycle s
  | .read => readCycle P c.toCycle s
  | .write => writeCycle s
  | .ambiguous => ambiguousCycle P c.toCycle s

/-- The state after one event; its records are in `out` (R120, R140). -/
def eventStep (P : Params) (s : State) : Event → State
  | .raw ts w => cycleStep P (classify ts w) s
  | .eos => endOfStream P s
  | .reset v strict => resetBlock P v strict s

/-- One step as R5 states it: the new state and this step's records. -/
def stepEvent (P : Params) (s : State) (e : Event) : State × List Record :=
  (eventStep P s e, (eventStep P s e).out)

/-- A run over a stream of events: the last state, and all records in order (R38 (c)). -/
def runEvents (P : Params) (s : State) : List Event → State × List Record
  | [] => (s, [])
  | e :: es =>
    let now := stepEvent P s e
    let later := runEvents P now.1 es
    (later.1, now.2 ++ later.2)

end Sys2Proof.Machine

namespace Sys2Proof

/-- The event of a clean opcode-fetch cycle (R107, R61). -/
def Cycle.fetchEvent (c : Cycle) : Machine.Event := .raw c.ts (packRaw c.addr c.data codeH codeH)

/-- The event of a clean read cycle (R108, R61). -/
def Cycle.readEvent (c : Cycle) : Machine.Event := .raw c.ts (packRaw c.addr c.data codeL codeH)

/-- The event of a clean write cycle (R109, R61). -/
def Cycle.writeEvent (c : Cycle) : Machine.Event := .raw c.ts (packRaw c.addr c.data codeL codeL)

/-- The event a sample presents first, as R63 and R167 order them: reset, then the raw cycle, then end-of-stream. -/
def PortSample.event (p : PortSample) : Option Machine.Event :=
  if p.rst then some (.reset p.cfgVariant p.cfgStrict)
  else if p.inValid then some (.raw p.inTs p.inRaw)
  else if p.inEos then some .eos
  else none

/-- What stays presented after that event: an end-of-stream that came with a raw cycle (R167). -/
def PortSample.left (p : PortSample) : List PortSample :=
  if p.rst = false ∧ p.inValid = true ∧ p.inEos = true then [{ p with inValid := false }] else []

namespace Machine

/-- The step of the block with parameters `P`: the machine that `step` is for `blockParams`, for every choice of the
open parameters of R4 and of the two tables (R30). -/
def stepWith (P : Params) (s : State) : State :=
  match s.inputs with
  | [] => s.clearOut
  | p :: rest =>
    match p.event with
    | none => { s with out := [], inputs := rest }
    | some e => { eventStep P s e with inputs := p.left ++ rest }

end Machine

end Sys2Proof
end

