-- ==== Sys2Proof/Machine/Step.lean ====
section
/-! DEFINITION. The step: take the next port sample, decode the event it presents, run it (spec/43_reconstructor.md R120).
A step in which nothing is presented emits nothing and changes no register: the block "never blocks" and "is idle whenever
no event is presented" (spec/60_exceptions.md §7 H6). -/

namespace Sys2Proof.Machine

/-- The state in which the event of the head sample is acted on: the sample is consumed, less what stays to be presented. -/
def State.consume (s : State) (left : Option PortSample) (rest : List PortSample) : State :=
  { s with inputs := left.toList ++ rest }

/-- One step. -/
def step (s : State) : Host.Outcome State Fault Refusal :=
  match s.inputs with
  | [] => .next s.clearOut
  | p :: rest =>
    match decode p with
    | .ok (i, left) => exec i (s.consume left rest)
    | .error _ => .next (s.clearOut.consume none rest)

/-- `s` with the table word `w` of `nbits` bits presented next. A word that has the variant bit also selects the table
variant, as a reset with that pin level would have; a word the decoder refuses changes nothing. -/
def State.withFetchWord (s : State) (nbits w : Nat) : State :=
  match tableWord nbits w with
  | some (.raw word) => { s with inputs := (TableWord.raw word).sample :: s.inputs }
  | some (.target v op) =>
    { s with
      inputs := (TableWord.target v op).sample :: s.inputs
      cfgVariant := v.getD s.cfgVariant }
  | none => s

end Sys2Proof.Machine
end

