-- ==== Sys2Proof/Safety.lean ====
section
/-! DEFINITION. What a reachable state and a good run are, in the terms the statements use: the invariant of
spec/10_state.md R20, the sticky fault (spec/93_implementation_defined.md U5), and which registers a state lets anyone see. -/

namespace Sys2Proof.Machine

/-- R20 (b): while an instruction is open, `n`, `p_cnt` and the length of its opcode's mode agree, and the length is 2 or
3. (R20 (a) is how "open" is defined: `st` = AwaitingOperands.) -/
abbrev State.openOk (P : Params) (s : State) : Prop :=
  s.st = .awaiting →
    1 ≤ s.n.toNat ∧ s.n.toNat ≤ 2 ∧ s.pCnt.toNat ≤ 1 ∧
      s.n.toNat + s.pCnt.toNat + 1 = (byteLength P (openDescriptor P s).mode).toNat ∧
      ((byteLength P (openDescriptor P s).mode).toNat = 2 ∨ (byteLength P (openDescriptor P s).mode).toNat = 3)

/-- R20 (c): no operand byte is awaited unless an instruction is open. -/
abbrev State.closedOk (s : State) : Prop := s.st ≠ .awaiting → s.n = 0

/-- R20 (d): `st` = Faulted if and only if `fault` is not 0. -/
abbrev State.faultOk (s : State) : Prop := s.st = .faulted ↔ s.fault ≠ .none

/-- R20 (e): strict mode is never Resyncing, soft mode never Faulted. -/
abbrev State.modeOk (s : State) : Prop :=
  (s.cfgStrict = 1 → s.st ≠ .resyncing) ∧ (s.cfgStrict = 0 → s.st ≠ .faulted)

/-- The invariant of R20, for the opcode table in `P`. -/
abbrev State.Inv (P : Params) (s : State) : Prop := s.openOk P ∧ s.closedOk ∧ s.faultOk ∧ s.modeOk

/-- A good end of a run: no hard error (U5). -/
abbrev State.unfaulted (s : State) : Prop := s.fault = .none

/-- Is an instruction open (R20 (a))? As a count of instructions: 0 or 1. -/
def State.openCount (s : State) : Nat := if s.st = .awaiting then 1 else 0

/-- Two states that differ at most in registers R23 calls "unspecified" and no rule reads (U6): the pending registers
agree as far as an open instruction has written them, the fault registers while `fault` is set. The output, the input and
the free-value counter are not compared. -/
structure SameToTheRules (s t : State) : Prop where
  st : s.st = t.st
  n : s.n = t.n
  cfgVariant : s.cfgVariant = t.cfgVariant
  cfgStrict : s.cfgStrict = t.cfgStrict
  fault : s.fault = t.fault
  opened : s.st = .awaiting →
    s.pOp = t.pOp ∧ s.pCnt = t.pCnt ∧ s.pPc = t.pPc ∧ s.pStart = t.pStart ∧ s.pEnd = t.pEnd
  firstByte : s.st = .awaiting → 1 ≤ s.pCnt.toNat → s.pB0 = t.pB0
  secondByte : s.st = .awaiting → s.pCnt.toNat = 2 → s.pB1 = t.pB1
  faultRegs : s.fault ≠ .none → s.fTs = t.fTs ∧ s.fAddr = t.fAddr ∧ s.fData = t.fData

/-- An open instruction that has no operand byte yet ends where it starts (R121, R139). -/
abbrev State.spanOk (s : State) : Prop := s.st = .awaiting → s.pCnt = 0 → s.pStart = s.pEnd

/-- The state with `Resyncing` read as `Idle` (R143). -/
def State.asIdle (s : State) : State := if s.st = .resyncing then { s with st := .idle } else s

/-! ### Events -/

/-- A reset event? -/
def Event.isReset : Event → Bool
  | .raw _ _ => false
  | .eos => false
  | .reset _ _ => true

/-- A raw cycle of this kind? -/
def Event.hasKind (k : CycleKind) : Event → Bool
  | .raw ts w => (classify ts w).kind == k
  | .eos => false
  | .reset _ _ => false

/-- The same event at another time. -/
def Event.mapTs (f : Timestamp → Timestamp) : Event → Event
  | .raw ts w => .raw (f ts) w
  | .eos => .eos
  | .reset v strict => .reset v strict

/-- The event with every field set to zero that soft mode does not use: the address of a read, address, data and
time of a write or of an ambiguous cycle (R37, R131). -/
def Event.eraseUnused : Event → Event
  | .raw ts w =>
    match (classify ts w).kind with
    | .fetch => .raw ts w
    | .read => .raw ts (packRaw 0 (rawData w) (rawSync w) (rawRnw w))
    | .write => .raw 0 (packRaw 0 0 (rawSync w) (rawRnw w))
    | .ambiguous => .raw 0 (packRaw 0 0 (rawSync w) (rawRnw w))
  | .eos => .eos
  | .reset v strict => .reset v strict

/-- A record with its timestamps renamed. -/
def Record.mapTs (f : Timestamp → Timestamp) (r : Record) : Record :=
  { r with startTs := f r.startTs, endTs := f r.endTs }

/-- A state with every timestamp register and emitted timestamp renamed. -/
def State.mapTs (f : Timestamp → Timestamp) (s : State) : State :=
  { s with pStart := f s.pStart, pEnd := f s.pEnd, fTs := f s.fTs, out := s.out.map (Record.mapTs f) }

/-! ### The width of a timestamp (R4, D5; log entry 15) -/

/-- The event's timestamp is a value of `TSW` bits. -/
abbrev Event.tsFits (P : Params) : Event → Prop
  | .raw ts _ => Timestamp.fits P ts
  | .eos => True
  | .reset _ _ => True

/-- The record's timestamps are values of `TSW` bits. -/
abbrev Record.tsFits (P : Params) (r : Record) : Prop := Timestamp.fits P r.startTs ∧ Timestamp.fits P r.endTs

/-- The timestamp registers are values of `TSW` bits. -/
abbrev State.tsFits (P : Params) (s : State) : Prop :=
  Timestamp.fits P s.pStart ∧ Timestamp.fits P s.pEnd ∧ Timestamp.fits P s.fTs

/-! ### Well-formed synthetic streams (R142) -/

/-- One operand of a target instruction on the bus: the read cycle that carries it, after any number of writes. -/
structure OperandRead where
  writes : List Cycle
  read   : Cycle

/-- A cycle that belongs to no instruction's bytes. -/
inductive DataCycle where
  | read (c : Cycle)
  | write (c : Cycle)

/-- One target instruction on the bus: its opcode fetch, its operand reads, and the data cycles after it. -/
structure InsnCycles where
  fetch    : Cycle
  operands : List OperandRead
  after    : List DataCycle

/-- The events of an operand. -/
def OperandRead.events (o : OperandRead) : List Event := o.writes.map Cycle.writeEvent ++ [o.read.readEvent]

/-- The event of a data cycle. -/
def DataCycle.event : DataCycle → Event
  | .read c => c.readEvent
  | .write c => c.writeEvent

/-- The events of an instruction. -/
def InsnCycles.events (g : InsnCycles) : List Event :=
  g.fetch.fetchEvent :: (g.operands.flatMap OperandRead.events ++ g.after.map DataCycle.event)

/-- The descriptor of the instruction's opcode (R70). -/
def InsnCycles.desc (P : Params) (v : BitVec 1) (g : InsnCycles) : Descriptor := lookup P v g.fetch.data

/-- The instruction has exactly the operand reads its mode needs (R142). -/
def InsnCycles.fits (P : Params) (v : BitVec 1) (g : InsnCycles) : Prop :=
  g.operands.length + 1 = (byteLength P (g.desc P v).mode).toNat

/-- The operand byte at `k`, or zero. -/
def InsnCycles.byte (g : InsnCycles) (k : Nat) : Byte := (g.operands.map (fun o => o.read.data)).getD k 0

/-- The timestamp of the last cycle that gave the instruction a byte (R139). -/
def InsnCycles.lastTs (g : InsnCycles) : Timestamp := (g.operands.map (fun o => o.read.ts)).getLastD g.fetch.ts

/-- The one record R142 demands of the instruction, every field from the bus cycles (R55, R56, R122, R139). -/
def InsnCycles.record (P : Params) (v : BitVec 1) (g : InsnCycles) : Record where
  kind := if (g.desc P v).mn = unknownMnemonic then .unknown else .complete
  reason := .none
  err := if (g.desc P v).mn = unknownMnemonic then .unknownOpcode else .none
  opcode := g.fetch.data
  mn := (g.desc P v).mn
  mode := (g.desc P v).mode
  len := byteLength P (g.desc P v).mode
  cnt := byteLength P (g.desc P v).mode - 1
  b0 := g.byte 0
  b1 := g.byte 1
  pc := g.fetch.addr
  target := if (g.desc P v).mode = .relative then branchTarget g.fetch.addr (g.byte 0) else 0
  text := format P (g.desc P v).mn (g.desc P v).mode (g.byte 0) (g.byte 1) g.fetch.addr
  startTs := g.fetch.ts
  endTs := g.lastTs

/-! ### Records -/

/-- What R55, R56, R100, R123 and R139 say the fields of one record have to do with one another, in a session of
variant `v`. -/
structure RecordConsistent (P : Params) (v : BitVec 1) (r : Record) : Prop where
  descriptor : lookup P v r.opcode = ⟨r.mn, r.mode⟩
  len : r.len = byteLength P r.mode
  completeErr : r.kind = .complete ↔ r.err = .none
  unknownErr : r.kind = .unknown ↔ r.err = .unknownOpcode
  truncatedErr : r.kind = .truncated ↔ r.err = .truncatedInstruction
  truncatedReason : r.kind = .truncated ↔ r.reason ≠ .none
  unknownMarker : r.kind = .unknown ↔ r.mn = unknownMnemonic
  closedCount : r.kind ≠ .truncated → r.cnt.toNat + 1 = r.len.toNat
  truncatedCount : r.kind = .truncated → r.cnt.toNat + 1 < r.len.toNat
  noFirstByte : r.cnt = 0 → r.b0 = 0
  noSecondByte : r.cnt.toNat < 2 → r.b1 = 0
  branch : r.kind = .complete → r.mode = .relative → r.target = branchTarget r.pc r.b0
  noBranch : r.kind ≠ .complete ∨ r.mode ≠ .relative → r.target = 0
  closedText : r.kind ≠ .truncated → r.text = format P r.mn r.mode r.b0 r.b1 r.pc
  truncatedText : r.kind = .truncated → r.text = r.mn.text
  span : r.cnt = 0 → r.startTs = r.endTs

end Sys2Proof.Machine
end

