-- ==== Sys2Proof/WellFormed.lean ====
section
/-! DEFINITION. Which terms of `Instr` are instructions: the operands of the two rows of R111 must match the row's own
pattern, the operand of `unknown` must be one of its rows' opcodes, and a row of one variant has words under that variant only. -/

namespace Sys2Proof

/-- The check of an instruction's operands. Every other operand is a field any value of which a word carries. -/
def View.wf : View → Bool
  | .fetch _ => true
  | .read _ => true
  | .write _ => true
  | .ambigInconsistent _ => true
  | .ambigSync sync _ _ => sync.getLsbD 1
  | .ambigRnw sync rnw _ => !sync.getLsbD 1 && rnw.getLsbD 1
  | .eos => true
  | .reset _ _ => true
  | .target _ _ => true

/-- `unknown` stands for the opcodes of its 77 rows only (R73, R58); no other constructor has an opcode operand. -/
def Instr.opcodeOk : Instr → Bool
  | .unknown op _ => unknownOpcodes.contains op
  | _ => true

/-- Well-formedness of an instruction (R63: `1xxx` and `0x1x` for the two rows of R111). -/
def Instr.wf (i : Instr) : Bool := i.view.wf && i.opcodeOk

/-- Is this a level E row? -/
def View.isEvent : View → Bool
  | .target _ _ => false
  | .fetch _ => true
  | .read _ => true
  | .write _ => true
  | .ambigInconsistent _ => true
  | .ambigSync _ _ _ => true
  | .ambigRnw _ _ _ => true
  | .eos => true
  | .reset _ _ => true

/-- Level E: an event of the block itself (R1). -/
def Instr.isEvent (i : Instr) : Bool := i.view.isEvent

/-- Does the instruction have a word under variant `v`? Only a level T row has a variant bit (R58, R59). -/
def View.inVariant (v : BitVec 1) : View → Bool
  | .target row _ => row.variants.admits v
  | .fetch _ => true
  | .read _ => true
  | .write _ => true
  | .ambigInconsistent _ => true
  | .ambigSync _ _ _ => true
  | .ambigRnw _ _ _ => true
  | .eos => true
  | .reset _ _ => true

/-- The variant check. -/
def Instr.inVariant (i : Instr) (v : BitVec 1) : Bool := i.view.inVariant v

end Sys2Proof
end

