-- ==== Sys2Proof/Certificates/Slice0/Obligations.lean ====
section
/-! DEFINITION. The statements for the provers. `exec` and `step` are the block with the spec's default opcode table
(`blockParams`); a statement over every `P` holds for every opcode table, and says so where it needs an admissible one. -/

open Sys2Proof Sys2Proof.Machine

/-! ### Reset (R23, R180) -/

/-- R23: the values the spec gives for reset, and what the status port shows (R19): the codes of `st` (R11, D27), `n` and the
code of `fault` (R18, R160), at reset and in every state. The two configuration registers hold the pin levels of `Config`,
which are the model's choice (log entry 2); the registers R23 calls unspecified are left out. -/
def Obligations.ResetStateHasTheSpecsValues : Prop :=
  (State.reset.st = .idle ∧ State.reset.n = 0 ∧ State.reset.pCnt = 0 ∧ State.reset.fault = .none ∧
    State.reset.out = [] ∧ State.reset.outCnt = 0 ∧ State.reset.cfgVariant = Config.resetVariantPin ∧
    State.reset.cfgStrict = Config.resetStrictPin ∧ State.reset.status = ⟨0, 0, 0⟩) ∧
  (∀ s : State, s.status = ⟨s.st.code, s.n, s.fault.code⟩) ∧
  (StTag.idle.code = 0 ∧ StTag.awaiting.code = 1 ∧ StTag.resyncing.code = 2 ∧ StTag.faulted.code = 3) ∧
  (FaultReg.none.code = 0 ∧ FaultReg.ambiguousBusCycle.code = 3)

/-- R180: the reset event from any state, `Faulted` and an open instruction included. It completes, latches the two
configuration pins, emits no record, and clears the registers R23 lists a value for; what it leaves in the others is free.
Nothing else leaves `Faulted` or reads the configuration pins. -/
def Obligations.ResetEventLeavesIdleAndLatchesPins : Prop :=
  (∀ (variant strict : BitVec 1) (s : State), ∃ t, exec (.reset variant strict) s = .next t ∧
    t.st = .idle ∧ t.n = 0 ∧ t.pCnt = 0 ∧ t.fault = .none ∧ t.cfgVariant = variant ∧ t.cfgStrict = strict ∧
    t.out = [] ∧ t.outCnt = 0 ∧ t.inputs = s.inputs) ∧
  (∀ (i : Instr) (s t : State), (∀ v strict, i ≠ .reset v strict) → exec i s = .next t →
    (s.st = .faulted → t.st = .faulted) ∧ t.cfgVariant = s.cfgVariant ∧ t.cfgStrict = s.cfgStrict)

/-! ### Classifier (R106 to R112, R63) -/

/-- R106 to R112: the kind of every raw cycle from its four control bits, the fields passed through, and the kinds' codes. -/
def Obligations.ClassifierFollowsTheTruthTable : Prop :=
  (∀ (ts : Timestamp) (addr : Addr) (data : Byte) (sync rnw : BitVec 2),
    classify ts (packRaw addr data sync rnw) =
      { ts := ts, addr := addr, data := data,
        kind :=
          if sync = 0b01 ∧ rnw = 0b01 then .fetch
          else if sync = 0b00 ∧ rnw = 0b01 then .read
          else if sync = 0b00 ∧ rnw = 0b00 then .write
          else .ambiguous }) ∧
  CycleKind.fetch.code = 0 ∧ CycleKind.read.code = 1 ∧ CycleKind.write.code = 2 ∧ CycleKind.ambiguous.code = 3

/-- R63: "the six `RAW` patterns are disjoint and together cover all sixteen codes". -/
def Obligations.RawPatternsPartitionTheCodes : Prop :=
  ∀ code : BitVec 4, (rawRows.filter (fun r => r.hits code)).length = 1

/-- R63, R106: the decoded row of a raw cycle is of the kind the classifier gives it, and carries its cycle. -/
def Obligations.DecodedEventAgreesWithClassifier : Prop :=
  ∀ (ts : Timestamp) (w : RawWord),
    match decodeRaw ts w with
    | .fetch c => (classify ts w).kind = .fetch ∧ (classify ts w).toCycle = c
    | .read c => (classify ts w).kind = .read ∧ (classify ts w).toCycle = c
    | .write c => (classify ts w).kind = .write ∧ (classify ts w).toCycle = c
    | .ambigInconsistent c => (classify ts w).kind = .ambiguous ∧ (classify ts w).toCycle = c
    | .ambigSync _ _ c => (classify ts w).kind = .ambiguous ∧ (classify ts w).toCycle = c
    | .ambigRnw _ _ c => (classify ts w).kind = .ambiguous ∧ (classify ts w).toCycle = c
    | _ => False

/-! ### Encodings (R46, R52 to R56, R58, R59, R63) -/

/-- Decode and encode agree on level E: every event with every operand its word carries. -/
def Obligations.DecodeOfEncodedEventIsTheEvent : Prop :=
  ∀ i : Instr, i.isEvent = true → i.wf = true → decode (encode i) = .ok (i, none)

/-- Decode and encode agree on level T: every target opcode row under every variant it has a word in. -/
def Obligations.DecodeOfEncodedOpcodeIsTheOpcode : Prop :=
  ∀ (i : Instr) (v : BitVec 1), i.isEvent = false → i.wf = true → i.inVariant v = true →
    decodeOpcode v (encode i) = .ok i

/-- Each raw word has one meaning: encoding the row it decodes to gives the word back, all 28 bits. -/
def Obligations.EncodeOfDecodedRawCycleIsTheWord : Prop :=
  ∀ (ts : Timestamp) (w : RawWord),
    encode (decodeRaw ts w) = { quietSample with inValid := true, inTs := ts, inRaw := w }

/-- What the decoder answers is well-formed, and a target opcode is one the session's variant has. -/
def Obligations.DecodedInstructionsAreWellFormed : Prop :=
  (∀ p i left, decode p = .ok (i, left) → i.wf = true ∧ i.isEvent = true) ∧
  (∀ v p i, decodeOpcode v p = .ok i → i.wf = true ∧ i.isEvent = false ∧ i.inVariant v = true)

/-- Words written out from R46, R61 and R74 to R77 (sanity): `F 0200 A9 @10`, `R 0201 05 @11`, `W 0080 05 @12`, and the four
opcodes the source fixes, under the extended variant. -/
def Obligations.WordsOfTheSpecDecode : Prop :=
  decodeRaw 10 0x0200A95 = .fetch ⟨10, 0x0200, 0xA9⟩ ∧
  decodeRaw 11 0x0201051 = .read ⟨11, 0x0201, 0x05⟩ ∧
  decodeRaw 12 0x0080050 = .write ⟨12, 0x0080, 0x05⟩ ∧
  decodeRaw 10 0x0200A94 = .ambigInconsistent ⟨10, 0x0200, 0xA9⟩ ∧
  decodeRaw 10 0x0200A99 = .ambigSync 0b10 0b01 ⟨10, 0x0200, 0xA9⟩ ∧
  decodeRaw 4 0x0203342 = .ambigRnw 0b00 0b10 ⟨4, 0x0203, 0x34⟩ ∧
  (∀ f, decodeTarget 1 0xA9 f = .ldaImm f ∧ decodeTarget 1 0x4C f = .jmpAbs f ∧
    decodeTarget 1 0x10 f = .bplRel f ∧ decodeTarget 1 0x02 f = .unk02 f)

/-- The packed words: the codes of R53 and R56, the layouts of R52 and R54 (the word of (`LDA`, Immediate) is `0x4C44413`),
every value carried, and the codes that no rule stores refused: mode code 15 and `len` 0 (R53, R54, R57), `kind` 3 and
`reason` 3 (R56, R57), and `err` 3, which R56 says is "never in a record". That a reader of a packed word refuses them is
U4; that it does so by these names is the model's (log entry 10). -/
def Obligations.PackedWordsRoundTripAndRejectReserved : Prop :=
  (AddrMode.all = [.implied, .impliedAccumulator, .relative, .immediate, .zeroPage, .zeroPageX, .zeroPageY,
      .indexedIndirect, .indirectIndexed, .indirect, .absolute, .absoluteX, .absoluteY, .absoluteIndirect16,
      .absoluteIndirectX] ∧
    AddrMode.all.map AddrMode.code = [0, 1, 2, 3, 4, 5, 6, 7, 8, 9, 10, 11, 12, 13, 14]) ∧
  (RecKind.complete.code = 0 ∧ RecKind.unknown.code = 1 ∧ RecKind.truncated.code = 2) ∧
  (Reason.none.code = 0 ∧ Reason.desync.code = 1 ∧ Reason.endOfStream.code = 2) ∧
  (RecErr.none.code = 0 ∧ RecErr.unknownOpcode.code = 1 ∧ RecErr.truncatedInstruction.code = 2) ∧
  (Format.op1.len = 1 ∧ Format.op2.len = 2 ∧ Format.op3.len = 3) ∧
  Descriptor.word ⟨mn 'L' 'D' 'A', .immediate⟩ = 0x4C44413 ∧
  (∀ d : Descriptor, d.word.extractLsb' 20 8 = d.mn.c1 ∧ d.word.extractLsb' 12 8 = d.mn.c2 ∧
    d.word.extractLsb' 4 8 = d.mn.c3 ∧ d.word.extractLsb' 0 4 = d.mode.code) ∧
  (∀ e : ModeEncoding, e.word.extractLsb' 4 2 = e.format.len ∧ e.word.extractLsb' 0 4 = e.tmpl.code) ∧
  (∀ d : Descriptor, Descriptor.ofWord d.word = .ok d) ∧
  (∀ e : ModeEncoding, ModeEncoding.ofWord e.word = .ok e) ∧
  (∀ k : RecKind, RecKind.ofCode k.code = .ok k) ∧ (∀ r : Reason, Reason.ofCode r.code = .ok r) ∧
  (∀ e : RecErr, RecErr.ofCode e.code = .ok e) ∧
  (∀ w : BitVec 28, w.extractLsb' 0 4 = 15 → Descriptor.ofWord w = .error .reservedModeCode) ∧
  (∀ w : BitVec 6, w.extractLsb' 4 2 = 0 → ModeEncoding.ofWord w = .error .reservedLenCode) ∧
  (∀ P : Params, modeRead P 15 = .error .reservedModeCode ∧
    ∀ m : AddrMode, modeRead P m.code = .ok (encodingFor P m).word) ∧
  RecKind.ofCode 3 = .error .reservedKindCode ∧ Reason.ofCode 3 = .error .reservedReasonCode ∧
  RecErr.ofCode 3 = .error .reservedErrCode

/-- R58, R59: "exactly one row matches any pair (`cfg_variant`, opcode)", and that row's opcode, mnemonic and mode are
those of the default table's entry. The rows come from spec/opcode_table.json, the table from the maps of R58 and R59. -/
def Obligations.OpcodeRowsAgreeWithTheDefaultTable : Prop :=
  ∀ (v : BitVec 1) (op : Byte) (f : OpFetch), ∃ row : TargetRow,
    (decodeTarget v op f).view = .target row f ∧ row.opcode = op ∧ row.variants.admits v = true ∧
      row.desc = lookup blockParams v op

/-! ### The step (R5, R63, R120, R167) -/

/-- R120: a step runs the event its input sample decodes to, on the state with that sample taken from the input. -/
def Obligations.StepRunsTheDecodedEvent : Prop :=
  ∀ (s : State) (p : PortSample) (rest : List PortSample) (i : Instr) (left : Option PortSample),
    s.inputs = p :: rest → decode p = .ok (i, left) →
    step s = exec i { s with inputs := left.toList ++ rest }

/-- R70, R79: a step on an opcode fetch runs the target opcode that the sample decodes to under the session's variant. -/
def Obligations.StepRunsTheDecodedTargetOpcode : Prop :=
  ∀ (s : State) (p : PortSample) (rest : List PortSample) (i : Instr),
    s.inputs = p :: rest → decodeOpcode s.cfgVariant p = .ok i →
    step s = exec i
      { s with inputs := (if p.inEos then [{ p with inValid := false }] else []) ++ rest }

/-- A step with nothing presented changes no register and emits nothing. -/
def Obligations.StepWithNothingPresentedWaits : Prop :=
  (∀ s : State, s.inputs = [] → step s = .next { s with out := [] }) ∧
  (∀ (s : State) (p : PortSample) (rest : List PortSample), s.inputs = p :: rest → p.rst = false →
    p.inValid = false → p.inEos = false → step s = .next { s with out := [], inputs := rest })

/-- R63, R167: reset wins and the others are dropped; otherwise the raw cycle first, and end-of-stream in a step after it. -/
def Obligations.PresentedEventsFollowTheirPriority : Prop :=
  (∀ p : PortSample, p.rst = true → decode p = .ok (.reset p.cfgVariant p.cfgStrict, none)) ∧
  (∀ p : PortSample, p.rst = false → p.inValid = true → p.inEos = true →
    decode p = .ok (decodeRaw p.inTs p.inRaw, some { p with inValid := false }) ∧
    decode { p with inValid := false } = .ok (.eos, none))

/-- R5, R120, R167: the machine's step is the pure function `eventStep` on the event that the sample presents; a raw cycle
leaves an end-of-stream presented with it for the next step. In every state, presented or not, it is the step of the block
that takes its parameters as an argument (R4, R30), at the default parameters. -/
def Obligations.StepRefinesThePureFunction : Prop :=
  (∀ (s : State) (p : PortSample) (rest : List PortSample) (e : Event),
    s.inputs = p :: rest → p.event = some e →
      step s = .next
        { eventStep blockParams s e with
          inputs := (if p.rst = false ∧ p.inValid = true ∧ p.inEos = true then [{ p with inValid := false }] else [])
            ++ rest }) ∧
  (∀ s : State, step s = .next (stepWith blockParams s))

/-- R17, R41, R187: the configuration pins of a sample without reset have no effect: the step is the same whatever their
levels. (Where a raw cycle is presented with end-of-stream, the sample left for the next step still shows them, and falls
under this statement there.) -/
def Obligations.ConfigurationPinsAreReadAtResetOnly : Prop :=
  ∀ (s : State) (p : PortSample) (rest : List PortSample) (variant strict : BitVec 1), p.rst = false →
    p.inValid = false ∨ p.inEos = false →
    step { s with inputs := { p with cfgVariant := variant, cfgStrict := strict } :: rest } =
      step { s with inputs := p :: rest }

/-! ### The reconstructor's transitions (R121 to R137) -/

/-- R124, R132 with R121: an opcode fetch with no instruction open. -/
def Obligations.FetchOpensOrClosesAnInstruction : Prop :=
  ∀ (c : Cycle) (s : State), s.st = .idle ∨ s.st = .resyncing →
    (byteLength blockParams (lookup blockParams s.cfgVariant c.data).mode = 1 →
      exec (.fetch c) s = .next
        { s with
          st := .idle, n := 0, pOp := c.data, pCnt := 0, pPc := c.addr, pStart := c.ts, pEnd := c.ts
          out := [completeRecord blockParams (lookup blockParams s.cfgVariant c.data)
            { s with pOp := c.data, pCnt := 0, pPc := c.addr, pStart := c.ts, pEnd := c.ts }] }) ∧
    (byteLength blockParams (lookup blockParams s.cfgVariant c.data).mode ≠ 1 →
      exec (.fetch c) s = .next
        { s with
          st := .awaiting, n := byteLength blockParams (lookup blockParams s.cfgVariant c.data).mode - 1
          pOp := c.data, pCnt := 0, pPc := c.addr, pStart := c.ts, pEnd := c.ts, out := [] })

/-- R129: an unexpected opcode fetch emits the open instruction as truncated with reason desync, from the old pending
registers, and then starts the new one in the same step as from `Idle`. -/
def Obligations.UnexpectedFetchTruncatesThenStarts : Prop :=
  ∀ (c : Cycle) (s : State), s.st = .awaiting →
    ∃ t, exec (.fetch c) { s with st := .idle } = .next t ∧
      exec (.fetch c) s = .next
        { t with out := truncatedRecord blockParams (lookup blockParams s.cfgVariant s.pOp) .desync s :: t.out }

/-- R128: a read cycle while operands are awaited. -/
def Obligations.ReadCollectsAnOperandByte : Prop :=
  ∀ (c : Cycle) (s : State), s.st = .awaiting →
    (s.n ≠ 1 → exec (.read c) s = .next
      { s with
        pB0 := if s.pCnt = 0 then c.data else s.pB0
        pB1 := if s.pCnt = 0 then s.pB1 else c.data
        pCnt := s.pCnt + 1, pEnd := c.ts, n := s.n - 1, out := [] }) ∧
    (s.n = 1 → exec (.read c) s = .next
      { s with
        st := .idle
        pB0 := if s.pCnt = 0 then c.data else s.pB0
        pB1 := if s.pCnt = 0 then s.pB1 else c.data
        pCnt := s.pCnt + 1, pEnd := c.ts, n := 0
        out := [completeRecord blockParams (lookup blockParams s.cfgVariant s.pOp)
          { s with
            pB0 := if s.pCnt = 0 then c.data else s.pB0
            pB1 := if s.pCnt = 0 then s.pB1 else c.data
            pCnt := s.pCnt + 1, pEnd := c.ts }] })

/-- R125, R133: a read cycle with no instruction open. -/
def Obligations.ReadWithoutOpenInstructionIsIgnored : Prop :=
  ∀ (c : Cycle) (s : State), s.st = .idle ∨ s.st = .resyncing → exec (.read c) s = .next { s with out := [] }

/-- R126, R130, R134: a write cycle in every state. -/
def Obligations.WriteIsIgnoredInEveryState : Prop :=
  ∀ (c : Cycle) (s : State), exec (.write c) s = .next { s with out := [] }

/-- R127, R135, R164: an ambiguous cycle with no instruction open, all three rows of the classifier's `ambiguous`. -/
def Obligations.AmbiguousCycleWithoutOpenInstruction : Prop :=
  ∀ (c : Cycle) (sync rnw : BitVec 2) (s : State) (i : Instr),
    i = .ambigInconsistent c ∨ i = .ambigSync sync rnw c ∨ i = .ambigRnw sync rnw c →
    s.st = .idle ∨ s.st = .resyncing →
    (s.cfgStrict = 0 → exec i s = .next { s with st := .resyncing, out := [] }) ∧
    (s.cfgStrict = 1 → exec i s = .next
      { s with
        st := .faulted, n := 0, fault := .ambiguousBusCycle, fTs := c.ts, fAddr := c.addr, fData := c.data
        out := [] })

/-- R131, R164: an ambiguous cycle while an instruction is open closes it as truncated; then soft mode resyncs and strict
mode takes the hard error. -/
def Obligations.AmbiguousCycleTruncatesTheOpenInstruction : Prop :=
  ∀ (c : Cycle) (sync rnw : BitVec 2) (s : State) (i : Instr),
    i = .ambigInconsistent c ∨ i = .ambigSync sync rnw c ∨ i = .ambigRnw sync rnw c →
    s.st = .awaiting →
    (s.cfgStrict = 0 → exec i s = .next
      { s with
        st := .resyncing, n := 0
        out := [truncatedRecord blockParams (lookup blockParams s.cfgVariant s.pOp) .desync s] }) ∧
    (s.cfgStrict = 1 → exec i s = .next
      { s with
        st := .faulted, n := 0, fault := .ambiguousBusCycle, fTs := c.ts, fAddr := c.addr, fData := c.data
        out := [truncatedRecord blockParams (lookup blockParams s.cfgVariant s.pOp) .desync s] })

/-- R136: end-of-stream in each state. -/
def Obligations.EndOfStreamFlushesTheOpenInstruction : Prop :=
  ∀ s : State,
    (s.st = .awaiting → exec .eos s = .next
      { s with
        st := .idle, n := 0
        out := [truncatedRecord blockParams (lookup blockParams s.cfgVariant s.pOp) .endOfStream s] }) ∧
    (s.st = .idle → exec .eos s = .next { s with out := [] }) ∧
    (s.st = .resyncing → exec .eos s = .next { s with st := .idle, out := [] }) ∧
    (s.st = .faulted → exec .eos s = .next { s with out := [] })

/-- R137, R165: in `Faulted` every instruction but RESET is consumed with no effect, so the fault registers keep the first
fault. -/
def Obligations.FaultedIgnoresAllButReset : Prop :=
  ∀ (i : Instr) (s : State), s.st = .faulted → (∀ v strict, i ≠ .reset v strict) →
    exec i s = .next { s with out := [] }

/-- R122: `CLOSE_COMPLETE` appends one record to the step's output and changes nothing else; every field of it, for the
descriptor `d` of the open instruction's opcode. -/
def Obligations.ClosedRecordFields : Prop :=
  ∀ (P : Params) (d : Descriptor) (s : State), d = lookup P s.cfgVariant s.pOp →
    closeComplete P d s = { s with out := s.out ++ [completeRecord P d s] } ∧
    completeRecord P d s =
      { kind := if d.mn = mn '?' '?' '?' then .unknown else .complete
        reason := .none
        err := if d.mn = mn '?' '?' '?' then .unknownOpcode else .none
        opcode := s.pOp, mn := d.mn, mode := d.mode, len := byteLength P d.mode, cnt := s.pCnt
        b0 := if s.pCnt = 0 then 0 else s.pB0
        b1 := if s.pCnt = 2 then s.pB1 else 0
        pc := s.pPc
        target := if d.mode = .relative then s.pPc + 2 + s.pB0.signExtend 16 else 0
        text := format P d.mn d.mode (if s.pCnt = 0 then 0 else s.pB0) (if s.pCnt = 2 then s.pB1 else 0) s.pPc
        startTs := s.pStart, endTs := s.pEnd }

/-- R123: `CLOSE_TRUNCATED(why)` appends one record to the step's output and changes nothing else; every field of it; and its
mnemonic is never `"???"` where the invariant of R20 holds and the mode table gives Implied its length. -/
def Obligations.TruncatedRecordFields : Prop :=
  ∀ (P : Params) (d : Descriptor) (why : Reason) (s : State), d = lookup P s.cfgVariant s.pOp →
    closeTruncated P why s = { s with out := s.out ++ [truncatedRecord P d why s] } ∧
    truncatedRecord P d why s =
      { kind := .truncated, reason := why, err := .truncatedInstruction
        opcode := s.pOp, mn := d.mn, mode := d.mode, len := byteLength P d.mode, cnt := s.pCnt
        b0 := if s.pCnt = 0 then 0 else s.pB0
        b1 := 0, pc := s.pPc, target := 0, text := d.mn.text, startTs := s.pStart, endTs := s.pEnd } ∧
    (AdmissibleModes P → s.Inv P → s.st = .awaiting → (truncatedRecord P d why s).mn ≠ mn '?' '?' '?')

/-! ### The mux and the resolver (R70 to R79, R80 to R98) -/

/-- R70, R73: `lookup` answers the table's entry, except that the unknown marker forces mode Implied, of length 1 in every
mode table that says what the source does. -/
def Obligations.LookupForcesUnknownToImplied : Prop :=
  ∀ (P : Params) (v : BitVec 1) (op : Byte),
    ((P.optab v op).mn ≠ mn '?' '?' '?' → lookup P v op = P.optab v op) ∧
    ((P.optab v op).mn = mn '?' '?' '?' → lookup P v op = ⟨mn '?' '?' '?', .implied⟩) ∧
    (AdmissibleModes P → (lookup P v op).mn = mn '?' '?' '?' → byteLength P (lookup P v op).mode = 1)

/-- R79: the default table is admissible (R78). The table itself is the spec's general knowledge (log entry 5). And the mode
table of R54 has the four lengths the source gives, and each mode its own template. -/
def Obligations.DefaultTableIsAdmissible : Prop := Admissible blockParams ∧ AdmissibleModes blockParams

/-- R74 to R77: the four entries the source fixes, through the mux of every admissible table. -/
def Obligations.SourceFixesFourEntries : Prop :=
  ∀ P : Params, Admissible P →
    lookup P 1 0xA9 = ⟨mn 'L' 'D' 'A', .immediate⟩ ∧ lookup P 1 0x4C = ⟨mn 'J' 'M' 'P', .absolute⟩ ∧
    lookup P 1 0x10 = ⟨mn 'B' 'P' 'L', .relative⟩ ∧ lookup P 1 0x02 = ⟨mn '?' '?' '?', .implied⟩

/-- R58, R59: the counts given "for a model's self-check", named and unknown entries of both default tables. -/
def Obligations.DefaultTableCounts : Prop :=
  ((List.range 256).filter (fun k => !isUnknown (optabDefault 1 (BitVec.ofNat 8 k)))).length = 178 ∧
  ((List.range 256).filter (fun k => !isUnknown (optabDefault 0 (BitVec.ofNat 8 k)))).length = 151

/-- R81 to R90: length and text of the one-byte and two-byte modes. -/
def Obligations.ShortModesRenderTheirTemplates : Prop :=
  ∀ (m : Mnemonic) (b0 b1 : Byte) (pc : Addr),
    (byteLength blockParams .implied = 1 ∧ format blockParams m .implied b0 b1 pc = m.text) ∧
    (byteLength blockParams .impliedAccumulator = 1 ∧
      format blockParams m .impliedAccumulator b0 b1 pc = m.text ++ text [' ', 'A']) ∧
    (byteLength blockParams .relative = 2 ∧ format blockParams m .relative b0 b1 pc =
      m.text ++ text [' ', 'P', 'C', '+'] ++ hex4 (pc + 2 + b0.signExtend 16)) ∧
    (byteLength blockParams .immediate = 2 ∧ format blockParams m .immediate b0 b1 pc = m.text ++ text [' ', '#'] ++ hex2 b0) ∧
    (byteLength blockParams .zeroPage = 2 ∧ format blockParams m .zeroPage b0 b1 pc = m.text ++ text [' '] ++ hex2 b0) ∧
    (byteLength blockParams .zeroPageX = 2 ∧
      format blockParams m .zeroPageX b0 b1 pc = m.text ++ text [' '] ++ hex2 b0 ++ text [',', 'X']) ∧
    (byteLength blockParams .zeroPageY = 2 ∧
      format blockParams m .zeroPageY b0 b1 pc = m.text ++ text [' '] ++ hex2 b0 ++ text [',', 'Y']) ∧
    (byteLength blockParams .indexedIndirect = 2 ∧ format blockParams m .indexedIndirect b0 b1 pc =
      m.text ++ text [' ', '('] ++ hex2 b0 ++ text [',', 'X', ')']) ∧
    (byteLength blockParams .indirectIndexed = 2 ∧ format blockParams m .indirectIndexed b0 b1 pc =
      m.text ++ text [' ', '('] ++ hex2 b0 ++ text [')', ',', 'Y']) ∧
    (byteLength blockParams .indirect = 2 ∧
      format blockParams m .indirect b0 b1 pc = m.text ++ text [' ', '('] ++ hex2 b0 ++ text [')'])

/-- R91 to R95: length and text of the three-byte modes; `b1`, the second byte to arrive, is shown first (R32). -/
def Obligations.AbsoluteModesRenderTheirTemplates : Prop :=
  ∀ (m : Mnemonic) (b0 b1 : Byte) (pc : Addr),
    (byteLength blockParams .absolute = 3 ∧
      format blockParams m .absolute b0 b1 pc = m.text ++ text [' '] ++ hex2 b1 ++ hex2 b0) ∧
    (byteLength blockParams .absoluteX = 3 ∧
      format blockParams m .absoluteX b0 b1 pc = m.text ++ text [' '] ++ hex2 b1 ++ hex2 b0 ++ text [',', 'X']) ∧
    (byteLength blockParams .absoluteY = 3 ∧
      format blockParams m .absoluteY b0 b1 pc = m.text ++ text [' '] ++ hex2 b1 ++ hex2 b0 ++ text [',', 'Y']) ∧
    (byteLength blockParams .absoluteIndirect16 = 3 ∧ format blockParams m .absoluteIndirect16 b0 b1 pc =
      m.text ++ text [' ', '('] ++ hex2 b1 ++ hex2 b0 ++ text [')']) ∧
    (byteLength blockParams .absoluteIndirectX = 3 ∧ format blockParams m .absoluteIndirectX b0 b1 pc =
      m.text ++ text [' ', '('] ++ hex2 b1 ++ hex2 b0 ++ text [',', 'X', ')'])

/-- R96: the text of a closed record has 3 to 12 characters, whatever mnemonic, mode, operands and address. -/
def Obligations.TextHasThreeToTwelveCharacters : Prop :=
  ∀ (m : Mnemonic) (mode : AddrMode) (b0 b1 : Byte) (pc : Addr),
    3 ≤ (format blockParams m mode b0 b1 pc).length ∧ (format blockParams m mode b0 b1 pc).length ≤ 12

/-- R97: `hex2` is two digits and `hex4` four, most significant first, leading zeros kept, upper case. -/
def Obligations.HexadecimalRendering : Prop :=
  (∀ b : Byte, hex2 b =
    [b.toNat / 16, b.toNat % 16].map (fun d => if d < 10 then BitVec.ofNat 8 (0x30 + d) else BitVec.ofNat 8 (0x41 + (d - 10)))) ∧
  (∀ w : Addr, hex4 w =
    [w.toNat / 4096, w.toNat / 256 % 16, w.toNat / 16 % 16, w.toNat % 16].map
      (fun d => if d < 10 then BitVec.ofNat 8 (0x30 + d) else BitVec.ofNat 8 (0x41 + (d - 10))))

/-- R98: the branch target is the signed sum modulo 2^16, `sext_16` copies the sign bit, and it is the target, not the raw
byte, that is displayed. -/
def Obligations.BranchTargetIsSignedSumModulo : Prop :=
  (∀ (pc : Addr) (b0 : Byte), ((branchTarget pc b0).toNat : Int) = ((pc.toNat : Int) + 2 + b0.toInt) % 65536) ∧
  (∀ b0 : Byte, (b0.getLsbD 7 = false → off16 b0 = 0x00#8 ++ b0) ∧ (b0.getLsbD 7 = true → off16 b0 = 0xFF#8 ++ b0)) ∧
  (∀ (P : Params) (m : Mnemonic) (b0 b1 : Byte) (pc : Addr), AdmissibleModes P →
    format P m .relative b0 b1 pc = m.text ++ text [' '] ++ P.branchPrefix ++ hex4 (branchTarget pc b0))

/-- R32, R51: the first operand byte to arrive is the low byte of a 16-bit operand; a one-byte operand is it alone. -/
def Obligations.FirstOperandByteIsTheLowByte : Prop :=
  ∀ b0 b1 : Byte, (op16 b0 b1).toNat = 256 * b1.toNat + b0.toNat ∧ op8 b0 = b0

/-! ### Level T: the target opcodes (R74 to R77, R79, R81 to R95) -/

/-- R79: the meaning of a target opcode row is that of the opcode-fetch cycle that carries its byte, in every state and
under either variant (log entry 7). All 207 level T constructors. -/
def Obligations.TargetOpcodeMeansItsFetchCycle : Prop :=
  ∀ (i : Instr) (row : TargetRow) (f : OpFetch) (s : State), i.wf = true → i.view = .target row f →
    exec i s = exec (.fetch ⟨f.ts, f.addr, row.opcode⟩) s

/-- R81, R82, R73, R77: every target opcode row of a one-byte mode (BRK, CLC, INX, NOP, RTS, ASL A, ROR A, ..., `"???"`)
completes with no instruction open: one record in the step of its fetch, kind and text as the mode and the marker say.
That a row's effect is its fetch cycle's is the model's reading (log entry 7, DEDUCED); all its rows but `0x02` of the extended
variant are those of the default table, the spec's general knowledge (R79; log entry 5, PRESUMED). -/
def Obligations.OneByteOpcodesCloseInTheirFetch : Prop :=
  ∀ (i : Instr) (row : TargetRow) (f : OpFetch) (s : State), i.view = .target row f →
    row.desc.mode = .implied ∨ row.desc.mode = .impliedAccumulator → row.variants.admits s.cfgVariant = true →
    s.st = .idle ∨ s.st = .resyncing →
    exec i s = .next
      { s with
        st := .idle, n := 0, pOp := row.opcode, pCnt := 0, pPc := f.addr, pStart := f.ts, pEnd := f.ts
        out :=
          [{ kind := if row.desc.mn = mn '?' '?' '?' then .unknown else .complete
             reason := .none
             err := if row.desc.mn = mn '?' '?' '?' then .unknownOpcode else .none
             opcode := row.opcode, mn := row.desc.mn, mode := row.desc.mode, len := 1, cnt := 0, b0 := 0, b1 := 0
             pc := f.addr, target := 0
             text := row.desc.mn.text ++ (if row.desc.mode = .implied then [] else text [' ', 'A'])
             startTs := f.ts, endTs := f.ts }] }

/-- R83 to R90, R74, R76: every target opcode row of a two-byte mode (LDA, STA, LDX, AND, CMP, BPL, BRA, ...) completes with
no instruction open and awaits one operand byte, and the next read cycle closes it with the mode's text. That a row's effect
is its fetch cycle's is the model's reading (log entry 7, DEDUCED); all its rows but `0xA9` and `0x10` of the extended variant
are those of the default table, the spec's general knowledge (R79; log entry 5, PRESUMED). -/
def Obligations.TwoByteOpcodesCloseOnTheirRead : Prop :=
  ∀ (i : Instr) (row : TargetRow) (f : OpFetch) (s : State), i.view = .target row f →
    row.desc.mode ∈ [AddrMode.relative, .immediate, .zeroPage, .zeroPageX, .zeroPageY, .indexedIndirect,
      .indirectIndexed, .indirect] →
    row.variants.admits s.cfgVariant = true → s.st = .idle ∨ s.st = .resyncing →
    ∃ t, exec i s = .next t ∧
      t = { s with
        st := .awaiting, n := 1, pOp := row.opcode, pCnt := 0, pPc := f.addr, pStart := f.ts, pEnd := f.ts, out := [] } ∧
      ∀ c : Cycle, exec (.read c) t = .next
        { t with
          st := .idle, n := 0, pB0 := c.data, pCnt := 1, pEnd := c.ts
          out :=
            [{ kind := .complete, reason := .none, err := .none, opcode := row.opcode, mn := row.desc.mn
               mode := row.desc.mode, len := 2, cnt := 1, b0 := c.data, b1 := 0, pc := f.addr
               target := if row.desc.mode = .relative then f.addr + 2 + c.data.signExtend 16 else 0
               text := format blockParams row.desc.mn row.desc.mode c.data 0 f.addr
               startTs := f.ts, endTs := c.ts }] }

/-- R91 to R95, R75: every target opcode row of a three-byte mode (JMP, JSR, LDA, STA, INC, ...) completes with no
instruction open and awaits two operand bytes; the second read closes it, the first byte read being the low one. That a
row's effect is its fetch cycle's is the model's reading (log entry 7, DEDUCED); all its rows but `0x4C` of the extended
variant are those of the default table, the spec's general knowledge (R79; log entry 5, PRESUMED). -/
def Obligations.ThreeByteOpcodesCloseOnTheirSecondRead : Prop :=
  ∀ (i : Instr) (row : TargetRow) (f : OpFetch) (s : State), i.view = .target row f →
    row.desc.mode ∈ [AddrMode.absolute, .absoluteX, .absoluteY, .absoluteIndirect16, .absoluteIndirectX] →
    row.variants.admits s.cfgVariant = true → s.st = .idle ∨ s.st = .resyncing →
    ∃ t, exec i s = .next t ∧
      t = { s with
        st := .awaiting, n := 2, pOp := row.opcode, pCnt := 0, pPc := f.addr, pStart := f.ts, pEnd := f.ts, out := [] } ∧
      ∀ c1 c2 : Cycle, ∃ u, exec (.read c1) t = .next u ∧ u.out = [] ∧ u.st = .awaiting ∧ u.n = 1 ∧
        exec (.read c2) u = .next
          { t with
            st := .idle, n := 0, pB0 := c1.data, pB1 := c2.data, pCnt := 2, pEnd := c2.ts
            out :=
              [{ kind := .complete, reason := .none, err := .none, opcode := row.opcode, mn := row.desc.mn
                 mode := row.desc.mode, len := 3, cnt := 2, b0 := c1.data, b1 := c2.data, pc := f.addr, target := 0
                 text := format blockParams row.desc.mn row.desc.mode c1.data c2.data f.addr
                 startTs := f.ts, endTs := c2.ts }] }

/-! ### The whole machine -/

/-- R120, R17, R41: every instruction, in every state, answers a next state; none touches the input still to come, and
none but RESET changes the configuration. -/
def Obligations.EveryInstructionCompletesAndKeepsConfiguration : Prop :=
  ∀ (i : Instr) (s : State), ∃ t, exec i s = .next t ∧ t.inputs = s.inputs ∧
    ((∀ v strict, i ≠ .reset v strict) → t.cfgVariant = s.cfgVariant ∧ t.cfgStrict = s.cfgStrict)

/-- R20 at reset. -/
def Obligations.ResetStateMeetsTheInvariant : Prop := State.reset.Inv blockParams ∧ State.reset.spanOk

/-- R20, R141: every event keeps the invariant, for every opcode table. -/
def Obligations.EveryEventKeepsTheInvariant : Prop :=
  ∀ (P : Params) (s : State) (e : Event), s.Inv P → (eventStep P s e).Inv P

/-- R20, R141: every step of the machine keeps the invariant. -/
def Obligations.EveryStepKeepsTheInvariant : Prop :=
  ∀ s t : State, s.Inv blockParams → step s = .next t → t.Inv blockParams

/-- R140: at most two records a step, and two only when a fetch of a one-byte opcode interrupts an open instruction. -/
def Obligations.AtMostTwoRecordsPerStep : Prop :=
  ∀ (P : Params) (s : State) (e : Event),
    (stepEvent P s e).2.length ≤ 2 ∧
    ((stepEvent P s e).2.length = 2 → s.st = .awaiting ∧ ∃ ts w, e = .raw ts w ∧ (classify ts w).kind = .fetch ∧
      byteLength P (lookup P s.cfgVariant (rawData w)).mode = 1)

/-- R55, R56, R100, R139, D31: the fields of every emitted record agree, for every admissible mode
table and from every state that meets the invariant of R20 and has an untouched span while no operand byte is in; and every event keeps the latter too. -/
def Obligations.EmittedRecordsAreConsistent : Prop :=
  ∀ (P : Params) (s : State) (e : Event), AdmissibleModes P → s.Inv P → s.spanOk →
    (∀ r ∈ (stepEvent P s e).2, RecordConsistent P s.cfgVariant r) ∧ (stepEvent P s e).1.spanOk

/-- R18, R164, R165: `fault` is set by an ambiguous cycle in strict mode alone, which captures that cycle. -/
def Obligations.OnlyAStrictAmbiguousCycleFaults : Prop :=
  ∀ (P : Params) (s : State) (e : Event), s.fault = .none → (eventStep P s e).fault ≠ .none →
    s.cfgStrict = 1 ∧ (eventStep P s e).st = .faulted ∧ ∃ ts w, e = .raw ts w ∧ (classify ts w).kind = .ambiguous ∧
      (eventStep P s e).fTs = ts ∧ (eventStep P s e).fAddr = rawAddr w ∧ (eventStep P s e).fData = rawData w

/-- R165, R190: from `Faulted`, any stream without a reset emits nothing and changes no register. -/
def Obligations.FaultedAbsorbsEveryStreamWithoutReset : Prop :=
  ∀ (P : Params) (s : State) (es : List Event), s.st = .faulted → (∀ e ∈ es, e.isReset = false) →
    (runEvents P s es).2 = [] ∧ (runEvents P s es).1.clearOut = s.clearOut

/-- R171: in soft mode no stream without a reset ends in `Faulted`. -/
def Obligations.SoftModeNeverFaults : Prop :=
  ∀ (P : Params) (s : State) (es : List Event), s.Inv P → s.cfgStrict = 0 → (∀ e ∈ es, e.isReset = false) →
    (runEvents P s es).1.st ≠ .faulted ∧ (runEvents P s es).1.unfaulted

/-- R142, for every opcode table and every admissible mode table, from every state in `Idle`: N complete instructions on the bus, with write cycles anywhere
and data reads before and between them, give exactly their N records, every field of each, and end in `Idle`. -/
def Obligations.RoundTripOfCompleteInstructions : Prop :=
  ∀ (P : Params) (s : State) (lead : List DataCycle) (gs : List InsnCycles), AdmissibleModes P →
    s.st = .idle → (∀ g ∈ gs, g.fits P s.cfgVariant) →
    (runEvents P s (lead.map DataCycle.event ++ gs.flatMap InsnCycles.events)).2 =
        gs.map (InsnCycles.record P s.cfgVariant) ∧
      (runEvents P s (lead.map DataCycle.event ++ gs.flatMap InsnCycles.events)).1.st = .idle

/-- R144, in soft and in strict mode. Over any stream without a reset whose end is not faulted, every instruction opened by a
fetch cycle is closed by exactly one record, or still open at the end; in soft mode every stream is such. And over any
stream, resets and hard errors included, there are no more records than instructions opened. -/
def Obligations.EveryFetchIsClosedByOneRecord : Prop :=
  (∀ (P : Params) (s : State) (es : List Event), s.Inv P → (∀ e ∈ es, e.isReset = false) →
    s.cfgStrict = 0 ∨ (runEvents P s es).1.unfaulted →
    s.openCount + (es.filter (Event.hasKind .fetch)).length =
      (runEvents P s es).2.length + (runEvents P s es).1.openCount) ∧
  (∀ (P : Params) (s : State) (es : List Event),
    (runEvents P s es).2.length + (runEvents P s es).1.openCount ≤
      s.openCount + (es.filter (Event.hasKind .fetch)).length)

/-- R143, soft mode: `Idle` and `Resyncing` differ in the value of `st` alone. A fetch, an ambiguous cycle (to `Resyncing`),
end-of-stream (to `Idle`) or a reset leads to the same state from both; a read or write leaves `st` as it was; over any
stream the records are the same, and so are all other registers at the end. -/
def Obligations.IdleAndResyncingGiveTheSameRecords : Prop :=
  ∀ (P : Params) (s : State), s.st = .idle → s.cfgStrict = 0 →
    (∀ e : Event, e.hasKind .read = false → e.hasKind .write = false →
      eventStep P { s with st := .resyncing } e = eventStep P s e) ∧
    (∀ e : Event, e.hasKind .ambiguous = true → (eventStep P s e).st = .resyncing) ∧
    (eventStep P s .eos).st = .idle ∧
    (∀ e : Event, e.hasKind .read = true ∨ e.hasKind .write = true →
      eventStep P s e = { s with out := [] } ∧
      eventStep P { s with st := .resyncing } e = { s with st := .resyncing, out := [] }) ∧
    (∀ es : List Event,
      (runEvents P { s with st := .resyncing } es).2 = (runEvents P s es).2 ∧
      (runEvents P { s with st := .resyncing } es).1.asIdle = (runEvents P s es).1.asIdle)

/-- R23, U6, for every admissible mode table: no register that reset leaves unspecified is ever read: two states that agree on what the rules may read give
the same records over every stream, resets included, and still agree after it. So no record and no status depends on a free
value or on the value that `State.reset` names. -/
def Obligations.UnspecifiedRegistersAreNeverRead : Prop :=
  ∀ (P : Params) (s t : State) (es : List Event), AdmissibleModes P → SameToTheRules s t →
    (runEvents P s es).2 = (runEvents P t es).2 ∧
      SameToTheRules (runEvents P s es).1 (runEvents P t es).1

/-- R15, R99, R4, D5: timestamps are opaque: renaming them in the state and the stream renames them in the records and the
final state, and does nothing else; no rule depends on their width; and over any stream whose timestamps have that width,
resets included, so have those of the records and the registers. -/
def Obligations.TimestampsAreOnlyCopied : Prop :=
  (∀ (P : Params) (f : Timestamp → Timestamp) (s : State) (es : List Event), (∀ e ∈ es, e.isReset = false) →
    runEvents P (s.mapTs f) (es.map (Event.mapTs f)) =
      ((runEvents P s es).1.mapTs f, (runEvents P s es).2.map (Record.mapTs f))) ∧
  (∀ (P : Params) (w : Nat) (s : State) (es : List Event), (∀ e ∈ es, e.isReset = false) →
    runEvents { P with tsw := w } s es = runEvents P s es) ∧
  (∀ (P : Params) (s : State) (es : List Event), s.tsFits P → (∀ e ∈ es, e.tsFits P) →
    (runEvents P s es).1.tsFits P ∧ ∀ r ∈ (runEvents P s es).2, Record.tsFits P r)

/-- R37, R131, D16: in soft mode the address of a read cycle, and address, data and time of a write or an ambiguous cycle,
have no effect on any record or register. -/
def Obligations.UnusedCycleFieldsHaveNoEffect : Prop :=
  ∀ (P : Params) (s : State) (es : List Event), s.cfgStrict = 0 → (∀ e ∈ es, e.isReset = false) →
    runEvents P s (es.map Event.eraseUnused) = runEvents P s es

/-- D15, R130: taking every write cycle out of a stream changes no record and no register at the end. -/
def Obligations.WritesCanBeDroppedFromAStream : Prop :=
  ∀ (P : Params) (s : State) (es : List Event),
    (runEvents P s (es.filter (fun e => !e.hasKind .write))).2 = (runEvents P s es).2 ∧
    (runEvents P s (es.filter (fun e => !e.hasKind .write))).1.clearOut = (runEvents P s es).1.clearOut

/-- R183, R132: in soft mode with no instruction open, cycles before the next opcode fetch emit nothing, and that fetch
starts as if they had not been. -/
def Obligations.DecodingStartsAtTheNextFetch : Prop :=
  ∀ (P : Params) (s : State) (es : List Event) (c : Cycle), s.st = .idle ∨ s.st = .resyncing → s.cfgStrict = 0 →
    (∀ e ∈ es, e.hasKind .read = true ∨ e.hasKind .write = true ∨ e.hasKind .ambiguous = true) →
    runEvents P s (es ++ [c.fetchEvent]) = stepEvent P s c.fetchEvent
end

