-- ==== Sys2Proof/Laws/State.lean ====
section
/-! SUPPORT. One lemma per field per register update, each true by `rfl`, so that no later proof unfolds a record update.
The free values of `resetRegs` have none: nothing is to be known of them. -/

namespace Sys2Proof.Machine

variable (s : State)

@[simp] theorem State.clearOut_st : s.clearOut.st = s.st := rfl
@[simp] theorem State.clearOut_n : s.clearOut.n = s.n := rfl
@[simp] theorem State.clearOut_pOp : s.clearOut.pOp = s.pOp := rfl
@[simp] theorem State.clearOut_pB0 : s.clearOut.pB0 = s.pB0 := rfl
@[simp] theorem State.clearOut_pB1 : s.clearOut.pB1 = s.pB1 := rfl
@[simp] theorem State.clearOut_pCnt : s.clearOut.pCnt = s.pCnt := rfl
@[simp] theorem State.clearOut_pPc : s.clearOut.pPc = s.pPc := rfl
@[simp] theorem State.clearOut_pStart : s.clearOut.pStart = s.pStart := rfl
@[simp] theorem State.clearOut_pEnd : s.clearOut.pEnd = s.pEnd := rfl
@[simp] theorem State.clearOut_cfgVariant : s.clearOut.cfgVariant = s.cfgVariant := rfl
@[simp] theorem State.clearOut_cfgStrict : s.clearOut.cfgStrict = s.cfgStrict := rfl
@[simp] theorem State.clearOut_fault : s.clearOut.fault = s.fault := rfl
@[simp] theorem State.clearOut_fTs : s.clearOut.fTs = s.fTs := rfl
@[simp] theorem State.clearOut_fAddr : s.clearOut.fAddr = s.fAddr := rfl
@[simp] theorem State.clearOut_fData : s.clearOut.fData = s.fData := rfl
@[simp] theorem State.clearOut_out : s.clearOut.out = [] := rfl
@[simp] theorem State.clearOut_inputs : s.clearOut.inputs = s.inputs := rfl
@[simp] theorem State.clearOut_freeCtr : s.clearOut.freeCtr = s.freeCtr := rfl

@[simp] theorem State.emit_st (r : Record) : (s.emit r).st = s.st := rfl
@[simp] theorem State.emit_n (r : Record) : (s.emit r).n = s.n := rfl
@[simp] theorem State.emit_pOp (r : Record) : (s.emit r).pOp = s.pOp := rfl
@[simp] theorem State.emit_pB0 (r : Record) : (s.emit r).pB0 = s.pB0 := rfl
@[simp] theorem State.emit_pB1 (r : Record) : (s.emit r).pB1 = s.pB1 := rfl
@[simp] theorem State.emit_pCnt (r : Record) : (s.emit r).pCnt = s.pCnt := rfl
@[simp] theorem State.emit_pPc (r : Record) : (s.emit r).pPc = s.pPc := rfl
@[simp] theorem State.emit_pStart (r : Record) : (s.emit r).pStart = s.pStart := rfl
@[simp] theorem State.emit_pEnd (r : Record) : (s.emit r).pEnd = s.pEnd := rfl
@[simp] theorem State.emit_cfgVariant (r : Record) : (s.emit r).cfgVariant = s.cfgVariant := rfl
@[simp] theorem State.emit_cfgStrict (r : Record) : (s.emit r).cfgStrict = s.cfgStrict := rfl
@[simp] theorem State.emit_fault (r : Record) : (s.emit r).fault = s.fault := rfl
@[simp] theorem State.emit_fTs (r : Record) : (s.emit r).fTs = s.fTs := rfl
@[simp] theorem State.emit_fAddr (r : Record) : (s.emit r).fAddr = s.fAddr := rfl
@[simp] theorem State.emit_fData (r : Record) : (s.emit r).fData = s.fData := rfl
@[simp] theorem State.emit_out (r : Record) : (s.emit r).out = s.out ++ [r] := rfl
@[simp] theorem State.emit_inputs (r : Record) : (s.emit r).inputs = s.inputs := rfl
@[simp] theorem State.emit_freeCtr (r : Record) : (s.emit r).freeCtr = s.freeCtr := rfl

@[simp] theorem State.setSt_st (x : StTag) : (s.setSt x).st = x := rfl
@[simp] theorem State.setSt_n (x : StTag) : (s.setSt x).n = s.n := rfl
@[simp] theorem State.setSt_pOp (x : StTag) : (s.setSt x).pOp = s.pOp := rfl
@[simp] theorem State.setSt_pB0 (x : StTag) : (s.setSt x).pB0 = s.pB0 := rfl
@[simp] theorem State.setSt_pB1 (x : StTag) : (s.setSt x).pB1 = s.pB1 := rfl
@[simp] theorem State.setSt_pCnt (x : StTag) : (s.setSt x).pCnt = s.pCnt := rfl
@[simp] theorem State.setSt_pPc (x : StTag) : (s.setSt x).pPc = s.pPc := rfl
@[simp] theorem State.setSt_pStart (x : StTag) : (s.setSt x).pStart = s.pStart := rfl
@[simp] theorem State.setSt_pEnd (x : StTag) : (s.setSt x).pEnd = s.pEnd := rfl
@[simp] theorem State.setSt_cfgVariant (x : StTag) : (s.setSt x).cfgVariant = s.cfgVariant := rfl
@[simp] theorem State.setSt_cfgStrict (x : StTag) : (s.setSt x).cfgStrict = s.cfgStrict := rfl
@[simp] theorem State.setSt_fault (x : StTag) : (s.setSt x).fault = s.fault := rfl
@[simp] theorem State.setSt_fTs (x : StTag) : (s.setSt x).fTs = s.fTs := rfl
@[simp] theorem State.setSt_fAddr (x : StTag) : (s.setSt x).fAddr = s.fAddr := rfl
@[simp] theorem State.setSt_fData (x : StTag) : (s.setSt x).fData = s.fData := rfl
@[simp] theorem State.setSt_out (x : StTag) : (s.setSt x).out = s.out := rfl
@[simp] theorem State.setSt_inputs (x : StTag) : (s.setSt x).inputs = s.inputs := rfl
@[simp] theorem State.setSt_freeCtr (x : StTag) : (s.setSt x).freeCtr = s.freeCtr := rfl

@[simp] theorem State.setN_st (k : BitVec 2) : (s.setN k).st = s.st := rfl
@[simp] theorem State.setN_n (k : BitVec 2) : (s.setN k).n = k := rfl
@[simp] theorem State.setN_pOp (k : BitVec 2) : (s.setN k).pOp = s.pOp := rfl
@[simp] theorem State.setN_pB0 (k : BitVec 2) : (s.setN k).pB0 = s.pB0 := rfl
@[simp] theorem State.setN_pB1 (k : BitVec 2) : (s.setN k).pB1 = s.pB1 := rfl
@[simp] theorem State.setN_pCnt (k : BitVec 2) : (s.setN k).pCnt = s.pCnt := rfl
@[simp] theorem State.setN_pPc (k : BitVec 2) : (s.setN k).pPc = s.pPc := rfl
@[simp] theorem State.setN_pStart (k : BitVec 2) : (s.setN k).pStart = s.pStart := rfl
@[simp] theorem State.setN_pEnd (k : BitVec 2) : (s.setN k).pEnd = s.pEnd := rfl
@[simp] theorem State.setN_cfgVariant (k : BitVec 2) : (s.setN k).cfgVariant = s.cfgVariant := rfl
@[simp] theorem State.setN_cfgStrict (k : BitVec 2) : (s.setN k).cfgStrict = s.cfgStrict := rfl
@[simp] theorem State.setN_fault (k : BitVec 2) : (s.setN k).fault = s.fault := rfl
@[simp] theorem State.setN_fTs (k : BitVec 2) : (s.setN k).fTs = s.fTs := rfl
@[simp] theorem State.setN_fAddr (k : BitVec 2) : (s.setN k).fAddr = s.fAddr := rfl
@[simp] theorem State.setN_fData (k : BitVec 2) : (s.setN k).fData = s.fData := rfl
@[simp] theorem State.setN_out (k : BitVec 2) : (s.setN k).out = s.out := rfl
@[simp] theorem State.setN_inputs (k : BitVec 2) : (s.setN k).inputs = s.inputs := rfl
@[simp] theorem State.setN_freeCtr (k : BitVec 2) : (s.setN k).freeCtr = s.freeCtr := rfl

@[simp] theorem State.openPending_st (c : Cycle) : (s.openPending c).st = s.st := rfl
@[simp] theorem State.openPending_n (c : Cycle) : (s.openPending c).n = s.n := rfl
@[simp] theorem State.openPending_pOp (c : Cycle) : (s.openPending c).pOp = c.data := rfl
@[simp] theorem State.openPending_pB0 (c : Cycle) : (s.openPending c).pB0 = s.pB0 := rfl
@[simp] theorem State.openPending_pB1 (c : Cycle) : (s.openPending c).pB1 = s.pB1 := rfl
@[simp] theorem State.openPending_pCnt (c : Cycle) : (s.openPending c).pCnt = 0 := rfl
@[simp] theorem State.openPending_pPc (c : Cycle) : (s.openPending c).pPc = c.addr := rfl
@[simp] theorem State.openPending_pStart (c : Cycle) : (s.openPending c).pStart = c.ts := rfl
@[simp] theorem State.openPending_pEnd (c : Cycle) : (s.openPending c).pEnd = c.ts := rfl
@[simp] theorem State.openPending_cfgVariant (c : Cycle) : (s.openPending c).cfgVariant = s.cfgVariant := rfl
@[simp] theorem State.openPending_cfgStrict (c : Cycle) : (s.openPending c).cfgStrict = s.cfgStrict := rfl
@[simp] theorem State.openPending_fault (c : Cycle) : (s.openPending c).fault = s.fault := rfl
@[simp] theorem State.openPending_fTs (c : Cycle) : (s.openPending c).fTs = s.fTs := rfl
@[simp] theorem State.openPending_fAddr (c : Cycle) : (s.openPending c).fAddr = s.fAddr := rfl
@[simp] theorem State.openPending_fData (c : Cycle) : (s.openPending c).fData = s.fData := rfl
@[simp] theorem State.openPending_out (c : Cycle) : (s.openPending c).out = s.out := rfl
@[simp] theorem State.openPending_inputs (c : Cycle) : (s.openPending c).inputs = s.inputs := rfl
@[simp] theorem State.openPending_freeCtr (c : Cycle) : (s.openPending c).freeCtr = s.freeCtr := rfl

@[simp] theorem State.appendOperand_st (c : Cycle) : (s.appendOperand c).st = s.st := rfl
@[simp] theorem State.appendOperand_n (c : Cycle) : (s.appendOperand c).n = s.n - 1 := rfl
@[simp] theorem State.appendOperand_pOp (c : Cycle) : (s.appendOperand c).pOp = s.pOp := rfl
@[simp] theorem State.appendOperand_pB0 (c : Cycle) : (s.appendOperand c).pB0 = if s.pCnt = 0 then c.data else s.pB0 := rfl
@[simp] theorem State.appendOperand_pB1 (c : Cycle) : (s.appendOperand c).pB1 = if s.pCnt = 0 then s.pB1 else c.data := rfl
@[simp] theorem State.appendOperand_pCnt (c : Cycle) : (s.appendOperand c).pCnt = s.pCnt + 1 := rfl
@[simp] theorem State.appendOperand_pPc (c : Cycle) : (s.appendOperand c).pPc = s.pPc := rfl
@[simp] theorem State.appendOperand_pStart (c : Cycle) : (s.appendOperand c).pStart = s.pStart := rfl
@[simp] theorem State.appendOperand_pEnd (c : Cycle) : (s.appendOperand c).pEnd = c.ts := rfl
@[simp] theorem State.appendOperand_cfgVariant (c : Cycle) : (s.appendOperand c).cfgVariant = s.cfgVariant := rfl
@[simp] theorem State.appendOperand_cfgStrict (c : Cycle) : (s.appendOperand c).cfgStrict = s.cfgStrict := rfl
@[simp] theorem State.appendOperand_fault (c : Cycle) : (s.appendOperand c).fault = s.fault := rfl
@[simp] theorem State.appendOperand_fTs (c : Cycle) : (s.appendOperand c).fTs = s.fTs := rfl
@[simp] theorem State.appendOperand_fAddr (c : Cycle) : (s.appendOperand c).fAddr = s.fAddr := rfl
@[simp] theorem State.appendOperand_fData (c : Cycle) : (s.appendOperand c).fData = s.fData := rfl
@[simp] theorem State.appendOperand_out (c : Cycle) : (s.appendOperand c).out = s.out := rfl
@[simp] theorem State.appendOperand_inputs (c : Cycle) : (s.appendOperand c).inputs = s.inputs := rfl
@[simp] theorem State.appendOperand_freeCtr (c : Cycle) : (s.appendOperand c).freeCtr = s.freeCtr := rfl

@[simp] theorem State.latchFault_st (c : Cycle) : (s.latchFault c).st = s.st := rfl
@[simp] theorem State.latchFault_n (c : Cycle) : (s.latchFault c).n = s.n := rfl
@[simp] theorem State.latchFault_pOp (c : Cycle) : (s.latchFault c).pOp = s.pOp := rfl
@[simp] theorem State.latchFault_pB0 (c : Cycle) : (s.latchFault c).pB0 = s.pB0 := rfl
@[simp] theorem State.latchFault_pB1 (c : Cycle) : (s.latchFault c).pB1 = s.pB1 := rfl
@[simp] theorem State.latchFault_pCnt (c : Cycle) : (s.latchFault c).pCnt = s.pCnt := rfl
@[simp] theorem State.latchFault_pPc (c : Cycle) : (s.latchFault c).pPc = s.pPc := rfl
@[simp] theorem State.latchFault_pStart (c : Cycle) : (s.latchFault c).pStart = s.pStart := rfl
@[simp] theorem State.latchFault_pEnd (c : Cycle) : (s.latchFault c).pEnd = s.pEnd := rfl
@[simp] theorem State.latchFault_cfgVariant (c : Cycle) : (s.latchFault c).cfgVariant = s.cfgVariant := rfl
@[simp] theorem State.latchFault_cfgStrict (c : Cycle) : (s.latchFault c).cfgStrict = s.cfgStrict := rfl
@[simp] theorem State.latchFault_fault (c : Cycle) : (s.latchFault c).fault = .ambiguousBusCycle := rfl
@[simp] theorem State.latchFault_fTs (c : Cycle) : (s.latchFault c).fTs = c.ts := rfl
@[simp] theorem State.latchFault_fAddr (c : Cycle) : (s.latchFault c).fAddr = c.addr := rfl
@[simp] theorem State.latchFault_fData (c : Cycle) : (s.latchFault c).fData = c.data := rfl
@[simp] theorem State.latchFault_out (c : Cycle) : (s.latchFault c).out = s.out := rfl
@[simp] theorem State.latchFault_inputs (c : Cycle) : (s.latchFault c).inputs = s.inputs := rfl
@[simp] theorem State.latchFault_freeCtr (c : Cycle) : (s.latchFault c).freeCtr = s.freeCtr := rfl

@[simp] theorem State.consume_st (left : Option PortSample) (rest : List PortSample) : (s.consume left rest).st = s.st := rfl
@[simp] theorem State.consume_n (left : Option PortSample) (rest : List PortSample) : (s.consume left rest).n = s.n := rfl
@[simp] theorem State.consume_pOp (left : Option PortSample) (rest : List PortSample) : (s.consume left rest).pOp = s.pOp := rfl
@[simp] theorem State.consume_pB0 (left : Option PortSample) (rest : List PortSample) : (s.consume left rest).pB0 = s.pB0 := rfl
@[simp] theorem State.consume_pB1 (left : Option PortSample) (rest : List PortSample) : (s.consume left rest).pB1 = s.pB1 := rfl
@[simp] theorem State.consume_pCnt (left : Option PortSample) (rest : List PortSample) : (s.consume left rest).pCnt = s.pCnt := rfl
@[simp] theorem State.consume_pPc (left : Option PortSample) (rest : List PortSample) : (s.consume left rest).pPc = s.pPc := rfl
@[simp] theorem State.consume_pStart (left : Option PortSample) (rest : List PortSample) : (s.consume left rest).pStart = s.pStart := rfl
@[simp] theorem State.consume_pEnd (left : Option PortSample) (rest : List PortSample) : (s.consume left rest).pEnd = s.pEnd := rfl
@[simp] theorem State.consume_cfgVariant (left : Option PortSample) (rest : List PortSample) : (s.consume left rest).cfgVariant = s.cfgVariant := rfl
@[simp] theorem State.consume_cfgStrict (left : Option PortSample) (rest : List PortSample) : (s.consume left rest).cfgStrict = s.cfgStrict := rfl
@[simp] theorem State.consume_fault (left : Option PortSample) (rest : List PortSample) : (s.consume left rest).fault = s.fault := rfl
@[simp] theorem State.consume_fTs (left : Option PortSample) (rest : List PortSample) : (s.consume left rest).fTs = s.fTs := rfl
@[simp] theorem State.consume_fAddr (left : Option PortSample) (rest : List PortSample) : (s.consume left rest).fAddr = s.fAddr := rfl
@[simp] theorem State.consume_fData (left : Option PortSample) (rest : List PortSample) : (s.consume left rest).fData = s.fData := rfl
@[simp] theorem State.consume_out (left : Option PortSample) (rest : List PortSample) : (s.consume left rest).out = s.out := rfl
@[simp] theorem State.consume_inputs (left : Option PortSample) (rest : List PortSample) : (s.consume left rest).inputs = left.toList ++ rest := rfl
@[simp] theorem State.consume_freeCtr (left : Option PortSample) (rest : List PortSample) : (s.consume left rest).freeCtr = s.freeCtr := rfl

@[simp] theorem State.resetRegs_st (P : Params) (v strict : BitVec 1) : (s.resetRegs P v strict).st = .idle := rfl
@[simp] theorem State.resetRegs_n (P : Params) (v strict : BitVec 1) : (s.resetRegs P v strict).n = 0 := rfl
@[simp] theorem State.resetRegs_pCnt (P : Params) (v strict : BitVec 1) : (s.resetRegs P v strict).pCnt = 0 := rfl
@[simp] theorem State.resetRegs_cfgVariant (P : Params) (v strict : BitVec 1) : (s.resetRegs P v strict).cfgVariant = v := rfl
@[simp] theorem State.resetRegs_cfgStrict (P : Params) (v strict : BitVec 1) : (s.resetRegs P v strict).cfgStrict = strict := rfl
@[simp] theorem State.resetRegs_fault (P : Params) (v strict : BitVec 1) : (s.resetRegs P v strict).fault = .none := rfl
@[simp] theorem State.resetRegs_out (P : Params) (v strict : BitVec 1) : (s.resetRegs P v strict).out = s.out := rfl
@[simp] theorem State.resetRegs_inputs (P : Params) (v strict : BitVec 1) : (s.resetRegs P v strict).inputs = s.inputs := rfl
@[simp] theorem State.resetRegs_freeCtr (P : Params) (v strict : BitVec 1) : (s.resetRegs P v strict).freeCtr = s.freeCtr + 9 := rfl

end Sys2Proof.Machine
end

