-- ==== Sys2Proof/Laws/Ops.lean ====
section
/-! SUPPORT. What each shared operation can do, said once: for each event of the reconstructor and each state, the next state
as an update of the old one. Later proofs cite these and unfold no operation. -/

namespace Sys2Proof.Machine

variable (P : Params) (d : Descriptor) (c : Cycle) (s : State)

/-! ### The mode table -/

@[simp] theorem encodingFor_block (m : AddrMode) : encodingFor blockParams m = ⟨modeFormat m, m⟩ := rfl

@[simp] theorem branchPrefix_block : blockParams.branchPrefix = text ['P', 'C', '+'] := rfl

/-- Every mode table gives a byte length of 1, 2 or 3: the type of the entry says so (R80). -/
theorem byteLength_cases (m : AddrMode) : byteLength P m = 1 ∨ byteLength P m = 2 ∨ byteLength P m = 3 := by
  unfold byteLength; cases (encodingFor P m).format <;> decide

/-- With each mode's own template, `format` is the mode's rule among R81 to R95. -/
theorem format_admissible (h : AdmissibleModes P) (mnem : Mnemonic) (m : AddrMode) (b0 b1 : Byte) (pc : Addr) :
    format P mnem m b0 b1 pc = mnem.text ++ operandText P m b0 b1 pc := by
  simp only [format, h.template]

/-! ### START and FAULT -/

/-- `START` of a one-byte instruction closes it at once (R121). -/
theorem start_one (h : byteLength P d.mode = 1) :
    start P d c s =
      { s with
        st := .idle, n := 0, pOp := c.data, pCnt := 0, pPc := c.addr, pStart := c.ts, pEnd := c.ts
        out := s.out ++ [completeRecord P d (s.openPending c)] } := by
  simp only [start, if_pos h]; rfl

/-- `START` of a longer instruction leaves it open (R121). -/
theorem start_more (h : byteLength P d.mode ≠ 1) :
    start P d c s =
      { s with
        st := .awaiting, n := byteLength P d.mode - 1, pOp := c.data, pCnt := 0, pPc := c.addr, pStart := c.ts
        pEnd := c.ts } := by
  simp only [start, if_neg h]; rfl

/-- `FAULT(c)` (R164). -/
theorem faultEntry_eq :
    faultEntry c s =
      { s with
        st := .faulted, n := 0, fault := .ambiguousBusCycle, fTs := c.ts, fAddr := c.addr, fData := c.data } := rfl

/-! ### Fetch (R124, R129, R132, R137) -/

theorem fetchWith_closed (h : s.st = .idle ∨ s.st = .resyncing) :
    fetchWith P d c s = start P d c s.clearOut := by
  rcases h with h | h <;> simp only [fetchWith, h]

theorem fetchWith_open (h : s.st = .awaiting) :
    fetchWith P d c s = start P d c (closeTruncated P .desync s.clearOut) := by
  simp only [fetchWith, h]

theorem fetchWith_faulted (h : s.st = .faulted) : fetchWith P d c s = s.clearOut := by
  simp only [fetchWith, h]

/-! ### Read (R125, R128, R133, R137) -/

theorem readCycle_closed (h : s.st ≠ .awaiting) : readCycle P c s = s.clearOut := by
  cases hs : s.st
  · simp only [readCycle, hs]
  · exact absurd hs h
  · simp only [readCycle, hs]
  · simp only [readCycle, hs]

theorem readCycle_last (h : s.st = .awaiting) (hn : s.n = 1) :
    readCycle P c s =
      { s.appendOperand c with
        st := .idle, out := [completeRecord P (openDescriptor P s) (s.appendOperand c)] } := by
  simp only [readCycle, h, collectOperand]
  rw [if_pos (by simp [hn])]
  rfl

theorem readCycle_more (h : s.st = .awaiting) (hn : s.n ≠ 1) :
    readCycle P c s = { s.appendOperand c with out := [] } := by
  have hn' : ¬ s.n - 1 = 0 := by
    intro e; exact hn (by rw [BitVec.sub_eq_iff_eq_add] at e; simpa using e)
  simp only [readCycle, h, collectOperand]
  rw [if_neg (by simpa using hn')]
  rfl

/-! ### Ambiguous (R127, R131, R135, R137) -/

theorem ambiguousExit_soft (h : s.cfgStrict = 0) : ambiguousExit c s = { s with st := .resyncing } := by
  have h1 : ¬ s.cfgStrict = 1 := by rw [h]; decide
  simp only [ambiguousExit, if_neg h1]; rfl

theorem ambiguousExit_strict (h : s.cfgStrict = 1) : ambiguousExit c s = faultEntry c s := by
  simp only [ambiguousExit, h, if_true]

theorem ambiguousCycle_closed (h : s.st = .idle ∨ s.st = .resyncing) :
    ambiguousCycle P c s = ambiguousExit c s.clearOut := by
  rcases h with h | h <;> simp only [ambiguousCycle, h]

theorem ambiguousCycle_open (h : s.st = .awaiting) :
    ambiguousCycle P c s =
      ambiguousExit c { s with n := 0, out := [truncatedRecord P (openDescriptor P s) .desync s] } := by
  simp only [ambiguousCycle, h]; rfl

theorem ambiguousCycle_faulted (h : s.st = .faulted) : ambiguousCycle P c s = s.clearOut := by
  simp only [ambiguousCycle, h]

/-! ### End of stream (R136, R137) -/

theorem endOfStream_open (h : s.st = .awaiting) :
    endOfStream P s =
      { s with st := .idle, n := 0, out := [truncatedRecord P (openDescriptor P s) .endOfStream s] } := by
  simp only [endOfStream, h]; rfl

theorem endOfStream_idle (h : s.st = .idle) : endOfStream P s = s.clearOut := by
  simp only [endOfStream, h]

theorem endOfStream_resyncing (h : s.st = .resyncing) : endOfStream P s = { s with st := .idle, out := [] } := by
  simp only [endOfStream, h]; rfl

theorem endOfStream_faulted (h : s.st = .faulted) : endOfStream P s = s.clearOut := by
  simp only [endOfStream, h]

/-! ### The events by kind (R106, R120) -/

variable (ts : Timestamp) (w : RawWord)

theorem classify_cycle : (classify ts w).toCycle = rawCycle ts w := rfl

theorem eventStep_fetch (h : (classify ts w).kind = .fetch) :
    eventStep P s (.raw ts w) = fetchWith P (lookup P s.cfgVariant (rawData w)) (rawCycle ts w) s := by
  simp only [eventStep, cycleStep, h]; rfl

theorem eventStep_read (h : (classify ts w).kind = .read) :
    eventStep P s (.raw ts w) = readCycle P (rawCycle ts w) s := by
  simp only [eventStep, cycleStep, h]; rfl

theorem eventStep_write (h : (classify ts w).kind = .write) : eventStep P s (.raw ts w) = s.clearOut := by
  simp only [eventStep, cycleStep, h]; rfl

theorem eventStep_ambiguous (h : (classify ts w).kind = .ambiguous) :
    eventStep P s (.raw ts w) = ambiguousCycle P (rawCycle ts w) s := by
  simp only [eventStep, cycleStep, h]; rfl

/-! ### Everything one event can do -/

theorem stTag_cases (t : StTag) : t = .idle ∨ t = .awaiting ∨ t = .resyncing ∨ t = .faulted := by
  cases t <;> simp

theorem bit_cases : ∀ b : BitVec 1, b = 0 ∨ b = 1 := by decide

/-- The records that close what is open when a fetch arrives (R129): none, or the truncated one. -/
def interrupted (P : Params) (s : State) : List Record :=
  if s.st = .awaiting then [truncatedRecord P (openDescriptor P s) .desync s] else []

/-- The effects of an event, with what each presupposes of the state and the event. -/
inductive Effect (P : Params) (s : State) : Event → State → Prop where
  /-- no record, no register changed -/
  | quiet (e : Event) (notReset : e.isReset = false)
      (why : s.st = .faulted ∨ e.hasKind .write = true ∨ (e.hasKind .read = true ∧ s.st ≠ .awaiting) ∨
        (e = .eos ∧ s.st = .idle)) : Effect P s e { s with out := [] }
  /-- a fetch of a one-byte opcode -/
  | fetchOne (ts : Timestamp) (w : RawWord) (kind : (classify ts w).kind = .fetch) (live : s.st ≠ .faulted)
      (len : byteLength P (lookup P s.cfgVariant (rawData w)).mode = 1) :
      Effect P s (.raw ts w)
        { s with
          st := .idle, n := 0, pOp := rawData w, pCnt := 0, pPc := rawAddr w, pStart := ts, pEnd := ts
          out := interrupted P s ++
            [completeRecord P (lookup P s.cfgVariant (rawData w)) (s.openPending (rawCycle ts w))] }
  /-- a fetch of a longer opcode -/
  | fetchMore (ts : Timestamp) (w : RawWord) (kind : (classify ts w).kind = .fetch) (live : s.st ≠ .faulted)
      (len : byteLength P (lookup P s.cfgVariant (rawData w)).mode ≠ 1) :
      Effect P s (.raw ts w)
        { s with
          st := .awaiting, n := byteLength P (lookup P s.cfgVariant (rawData w)).mode - 1
          pOp := rawData w, pCnt := 0, pPc := rawAddr w, pStart := ts, pEnd := ts, out := interrupted P s }
  /-- an operand byte, not the last -/
  | operand (ts : Timestamp) (w : RawWord) (kind : (classify ts w).kind = .read) (isOpen : s.st = .awaiting)
      (more : s.n ≠ 1) :
      Effect P s (.raw ts w) { s.appendOperand (rawCycle ts w) with out := [] }
  /-- the last operand byte -/
  | lastOperand (ts : Timestamp) (w : RawWord) (kind : (classify ts w).kind = .read) (isOpen : s.st = .awaiting)
      (last : s.n = 1) :
      Effect P s (.raw ts w)
        { s.appendOperand (rawCycle ts w) with
          st := .idle, out := [completeRecord P (openDescriptor P s) (s.appendOperand (rawCycle ts w))] }
  /-- an ambiguous cycle in soft mode -/
  | resync (ts : Timestamp) (w : RawWord) (kind : (classify ts w).kind = .ambiguous) (live : s.st ≠ .faulted)
      (soft : s.cfgStrict = 0) :
      Effect P s (.raw ts w)
        { s with st := .resyncing, n := if s.st = .awaiting then 0 else s.n, out := interrupted P s }
  /-- an ambiguous cycle in strict mode: the hard error -/
  | hardError (ts : Timestamp) (w : RawWord) (kind : (classify ts w).kind = .ambiguous) (live : s.st ≠ .faulted)
      (strict : s.cfgStrict = 1) :
      Effect P s (.raw ts w)
        { s with
          st := .faulted, n := 0, fault := .ambiguousBusCycle, fTs := ts, fAddr := rawAddr w, fData := rawData w
          out := interrupted P s }
  /-- end-of-stream with an instruction open -/
  | flush (isOpen : s.st = .awaiting) :
      Effect P s .eos
        { s with st := .idle, n := 0, out := [truncatedRecord P (openDescriptor P s) .endOfStream s] }
  /-- end-of-stream while resynchronising -/
  | leaveResync (resyncing : s.st = .resyncing) : Effect P s .eos { s with st := .idle, out := [] }
  /-- reset -/
  | reset (v strict : BitVec 1) : Effect P s (.reset v strict) (s.clearOut.resetRegs P v strict)

theorem hasKind_raw (k : CycleKind) (h : (classify ts w).kind = k) : (Event.raw ts w).hasKind k = true := by
  simp [Event.hasKind, h]

theorem interrupted_closed (h : s.st ≠ .awaiting) : interrupted P s = [] := if_neg h

theorem interrupted_open (h : s.st = .awaiting) :
    interrupted P s = [truncatedRecord P (openDescriptor P s) .desync s] := if_pos h

theorem fetchWith_live (h : s.st ≠ .faulted) :
    fetchWith P d c s = start P d c { s with out := interrupted P s } := by
  rcases stTag_cases s.st with hs | hs | hs | hs
  · rw [fetchWith_closed _ _ _ _ (.inl hs), interrupted_closed _ _ (by simp [hs])]; rfl
  · rw [fetchWith_open _ _ _ _ hs, interrupted_open _ _ hs]; rfl
  · rw [fetchWith_closed _ _ _ _ (.inr hs), interrupted_closed _ _ (by simp [hs])]; rfl
  · exact absurd hs h

theorem ambiguousCycle_live (h : s.st ≠ .faulted) :
    ambiguousCycle P c s =
      ambiguousExit c { s with n := if s.st = .awaiting then 0 else s.n, out := interrupted P s } := by
  rcases stTag_cases s.st with hs | hs | hs | hs
  · rw [ambiguousCycle_closed _ _ _ (.inl hs), interrupted_closed _ _ (by simp [hs]), if_neg (by simp [hs])]; rfl
  · rw [ambiguousCycle_open _ _ _ hs, interrupted_open _ _ hs, if_pos hs]
  · rw [ambiguousCycle_closed _ _ _ (.inr hs), interrupted_closed _ _ (by simp [hs]), if_neg (by simp [hs])]; rfl
  · exact absurd hs h

/-- What one event does is one of the effects: the inversion lemma of the reconstructor. -/
theorem eventStep_effect (e : Event) : Effect P s e (eventStep P s e) := by
  cases e with
  | reset v strict => exact .reset v strict
  | eos =>
    simp only [eventStep]
    rcases stTag_cases s.st with hs | hs | hs | hs
    · rw [endOfStream_idle _ _ hs]; exact .quiet _ rfl (.inr (.inr (.inr ⟨rfl, hs⟩)))
    · rw [endOfStream_open _ _ hs]; exact .flush hs
    · rw [endOfStream_resyncing _ _ hs]; exact .leaveResync hs
    · rw [endOfStream_faulted _ _ hs]; exact .quiet _ rfl (.inl hs)
  | raw ts w =>
    cases hk : (classify ts w).kind
    · rw [eventStep_fetch _ _ _ _ hk]
      by_cases hf : s.st = .faulted
      · rw [fetchWith_faulted _ _ _ _ hf]; exact .quiet _ rfl (.inl hf)
      · rw [fetchWith_live _ _ _ _ hf]
        by_cases hb : byteLength P (lookup P s.cfgVariant (rawData w)).mode = 1
        · rw [start_one _ _ _ _ hb]; exact .fetchOne ts w hk hf hb
        · rw [start_more _ _ _ _ hb]; exact .fetchMore ts w hk hf hb
    · rw [eventStep_read _ _ _ _ hk]
      by_cases ho : s.st = .awaiting
      · by_cases hn : s.n = 1
        · rw [readCycle_last _ _ _ ho hn]; exact .lastOperand ts w hk ho hn
        · rw [readCycle_more _ _ _ ho hn]; exact .operand ts w hk ho hn
      · rw [readCycle_closed _ _ _ ho]; exact .quiet _ rfl (.inr (.inr (.inl ⟨hasKind_raw _ _ _ hk, ho⟩)))
    · rw [eventStep_write _ _ _ _ hk]; exact .quiet _ rfl (.inr (.inl (hasKind_raw _ _ _ hk)))
    · rw [eventStep_ambiguous _ _ _ _ hk]
      by_cases hf : s.st = .faulted
      · rw [ambiguousCycle_faulted _ _ _ hf]; exact .quiet _ rfl (.inl hf)
      · rw [ambiguousCycle_live _ _ _ hf]
        rcases bit_cases s.cfgStrict with hb | hb
        · rw [ambiguousExit_soft _ _ (by exact hb)]; exact .resync ts w hk hf hb
        · rw [ambiguousExit_strict _ _ (by exact hb), faultEntry_eq]; exact .hardError ts w hk hf hb

/-! ### Runs -/

@[simp] theorem runEvents_nil : runEvents P s [] = (s, []) := rfl

theorem runEvents_cons (e : Event) (es : List Event) :
    runEvents P s (e :: es) =
      ((runEvents P (eventStep P s e) es).1, (eventStep P s e).out ++ (runEvents P (eventStep P s e) es).2) := rfl

theorem runEvents_append (es fs : List Event) :
    runEvents P s (es ++ fs) =
      ((runEvents P (runEvents P s es).1 fs).1, (runEvents P s es).2 ++ (runEvents P (runEvents P s es).1 fs).2) := by
  induction es generalizing s with
  | nil => simp
  | cons e es ih => simp [runEvents_cons, ih]

end Sys2Proof.Machine
end

