-- ==== Sys2Proof/Tests/Slice0.lean ====
section
/-! SUPPORT. Tests: the checks of WellFormed refuse ill-formed terms; words written out from the spec's encodings decode to
what they stand for; single steps of spec/95_test_vectors.md; and, for every statement with hypotheses, a witness that meets
them. Expected results are the spec's. -/

namespace Sys2Proof.Tests

open Sys2Proof.Machine

/-! ### WellFormed -/

/-- `0101` is no word of the row `1xxx` (R63, R111). -/
theorem test_wf_ambigSync_needs_bit : Instr.wf (.ambigSync 0b01 0b01 ⟨0, 0, 0⟩) = false := by decide
/-- `1x1x` is a word of the row `1xxx`, not of `0x1x` (R63). -/
theorem test_wf_ambigRnw_needs_clean_sync : Instr.wf (.ambigRnw 0b10 0b10 ⟨0, 0, 0⟩) = false := by decide
/-- `0001` is no word of the row `0x1x` (R63). -/
theorem test_wf_ambigRnw_needs_bit : Instr.wf (.ambigRnw 0b00 0b01 ⟨0, 0, 0⟩) = false := by decide
/-- `0xA9` is no unknown opcode (R74), and `0x02` has a constructor of its own (R77). -/
theorem test_wf_unknown_needs_its_opcodes :
    Instr.wf (.unknown 0xA9 ⟨0, 0⟩) = false ∧ Instr.wf (.unknown 0x02 ⟨0, 0⟩) = false := by decide
/-- `0x80` is BRA in the extended table and unknown in the base table (R58, R59). -/
theorem test_wf_variant :
    Instr.inVariant (.braRel ⟨0, 0⟩) 0 = false ∧ Instr.inVariant (.unkBase80 ⟨0, 0⟩) 1 = false := by decide

/-! ### Decoding: the words of the opcode table -/

/-- The sample that presents the raw word `w` at time 7. -/
def rawAt7 (w : RawWord) : PortSample := { quietSample with inValid := true, inTs := 7, inRaw := w }

/-- The level T row a raw word decodes to. -/
def opcodeOf (v : BitVec 1) (w : RawWord) : Option Instr :=
  match decodeOpcode v (rawAt7 w) with
  | .ok i => some i
  | .error _ => none

def at0200 : OpFetch := ⟨7, 0x0200⟩

/-- The rows at that fetch. -/
def these (rows : List (OpFetch → Instr)) : List (Option Instr) := rows.map (fun row => some (row at0200))

/-- All sixteen control codes at address 1234, data AB (V-CLS). -/
theorem test_decode_raw_codes :
    [0x1234AB0, 0x1234AB1, 0x1234AB2, 0x1234AB3, 0x1234AB4, 0x1234AB5, 0x1234AB6, 0x1234AB7].map (decodeRaw 7) =
      [.write ⟨7, 0x1234, 0xAB⟩, .read ⟨7, 0x1234, 0xAB⟩, .ambigRnw 0 2 ⟨7, 0x1234, 0xAB⟩,
       .ambigRnw 0 3 ⟨7, 0x1234, 0xAB⟩, .ambigInconsistent ⟨7, 0x1234, 0xAB⟩, .fetch ⟨7, 0x1234, 0xAB⟩,
       .ambigRnw 1 2 ⟨7, 0x1234, 0xAB⟩, .ambigRnw 1 3 ⟨7, 0x1234, 0xAB⟩] ∧
    [0x1234AB8, 0x1234AB9, 0x1234ABA, 0x1234ABB, 0x1234ABC, 0x1234ABD, 0x1234ABE, 0x1234ABF].map (decodeRaw 7) =
      [.ambigSync 2 0 ⟨7, 0x1234, 0xAB⟩, .ambigSync 2 1 ⟨7, 0x1234, 0xAB⟩, .ambigSync 2 2 ⟨7, 0x1234, 0xAB⟩,
       .ambigSync 2 3 ⟨7, 0x1234, 0xAB⟩, .ambigSync 3 0 ⟨7, 0x1234, 0xAB⟩, .ambigSync 3 1 ⟨7, 0x1234, 0xAB⟩,
       .ambigSync 3 2 ⟨7, 0x1234, 0xAB⟩, .ambigSync 3 3 ⟨7, 0x1234, 0xAB⟩] := ⟨rfl, rfl⟩

/-- The ports of EOS and RESET, and a sample that presents nothing (R63). -/
theorem test_decode_ports :
    decode ⟨false, 1, 0, false, 0, 0, true⟩ = .ok (.eos, none) ∧
    decode ⟨true, 1, 0, true, 9, 0x0200A95, true⟩ = .ok (.reset 1 0, none) ∧
    decode ⟨false, 1, 0, false, 9, 0x0200A95, false⟩ = .error .nothingPresented := ⟨rfl, rfl, rfl⟩

/-- Level T decoding rejects a cycle that is no opcode fetch. -/
theorem test_decode_opcode_of_read : decodeOpcode 1 (rawAt7 0x0200A91) = .error .notOpcodeFetch := by rfl

/-- Words `F 0200 0x @7` under the extended variant (R61, R58). -/
theorem test_decode_extended_row_0 :
    [0x0200005, 0x0200015, 0x0200025, 0x0200035, 0x0200045, 0x0200055, 0x0200065, 0x0200075, 0x0200085,
     0x0200095, 0x02000A5, 0x02000B5, 0x02000C5, 0x02000D5, 0x02000E5, 0x02000F5].map (opcodeOf 1) =
    these [.brkImp, .oraIzx, .unk02, .unknown 0x03, .tsbZp, .oraZp, .aslZp, .unknown 0x07, .phpImp, .oraImm, .aslAcc,
     .unknown 0x0B, .tsbAbs, .oraAbs, .aslAbs, .unknown 0x0F] := by rfl

/-- Words `F 0200 1x @7` under the extended variant (R61, R58). -/
theorem test_decode_extended_row_1 :
    [0x0200105, 0x0200115, 0x0200125, 0x0200135, 0x0200145, 0x0200155, 0x0200165, 0x0200175, 0x0200185,
     0x0200195, 0x02001A5, 0x02001B5, 0x02001C5, 0x02001D5, 0x02001E5, 0x02001F5].map (opcodeOf 1) =
    these [.bplRel, .oraIzy, .oraIzp, .unknown 0x13, .trbZp, .oraZpx, .aslZpx, .unknown 0x17, .clcImp, .oraAby,
     .incAcc, .unknown 0x1B, .trbAbs, .oraAbx, .aslAbx, .unknown 0x1F] := by rfl

/-- Words `F 0200 2x @7` under the extended variant (R61, R58). -/
theorem test_decode_extended_row_2 :
    [0x0200205, 0x0200215, 0x0200225, 0x0200235, 0x0200245, 0x0200255, 0x0200265, 0x0200275, 0x0200285,
     0x0200295, 0x02002A5, 0x02002B5, 0x02002C5, 0x02002D5, 0x02002E5, 0x02002F5].map (opcodeOf 1) =
    these [.jsrAbs, .andIzx, .unknown 0x22, .unknown 0x23, .bitZp, .andZp, .rolZp, .unknown 0x27, .plpImp, .andImm,
     .rolAcc, .unknown 0x2B, .bitAbs, .andAbs, .rolAbs, .unknown 0x2F] := by rfl

/-- Words `F 0200 3x @7` under the extended variant (R61, R58). -/
theorem test_decode_extended_row_3 :
    [0x0200305, 0x0200315, 0x0200325, 0x0200335, 0x0200345, 0x0200355, 0x0200365, 0x0200375, 0x0200385,
     0x0200395, 0x02003A5, 0x02003B5, 0x02003C5, 0x02003D5, 0x02003E5, 0x02003F5].map (opcodeOf 1) =
    these [.bmiRel, .andIzy, .andIzp, .unknown 0x33, .bitZpx, .andZpx, .rolZpx, .unknown 0x37, .secImp, .andAby,
     .decAcc, .unknown 0x3B, .bitAbx, .andAbx, .rolAbx, .unknown 0x3F] := by rfl

/-- Words `F 0200 4x @7` under the extended variant (R61, R58). -/
theorem test_decode_extended_row_4 :
    [0x0200405, 0x0200415, 0x0200425, 0x0200435, 0x0200445, 0x0200455, 0x0200465, 0x0200475, 0x0200485,
     0x0200495, 0x02004A5, 0x02004B5, 0x02004C5, 0x02004D5, 0x02004E5, 0x02004F5].map (opcodeOf 1) =
    these [.rtiImp, .eorIzx, .unknown 0x42, .unknown 0x43, .unknown 0x44, .eorZp, .lsrZp, .unknown 0x47, .phaImp,
     .eorImm, .lsrAcc, .unknown 0x4B, .jmpAbs, .eorAbs, .lsrAbs, .unknown 0x4F] := by rfl

/-- Words `F 0200 5x @7` under the extended variant (R61, R58). -/
theorem test_decode_extended_row_5 :
    [0x0200505, 0x0200515, 0x0200525, 0x0200535, 0x0200545, 0x0200555, 0x0200565, 0x0200575, 0x0200585,
     0x0200595, 0x02005A5, 0x02005B5, 0x02005C5, 0x02005D5, 0x02005E5, 0x02005F5].map (opcodeOf 1) =
    these [.bvcRel, .eorIzy, .eorIzp, .unknown 0x53, .unknown 0x54, .eorZpx, .lsrZpx, .unknown 0x57, .cliImp,
     .eorAby, .phyImp, .unknown 0x5B, .unknown 0x5C, .eorAbx, .lsrAbx, .unknown 0x5F] := by rfl

/-- Words `F 0200 6x @7` under the extended variant (R61, R58). -/
theorem test_decode_extended_row_6 :
    [0x0200605, 0x0200615, 0x0200625, 0x0200635, 0x0200645, 0x0200655, 0x0200665, 0x0200675, 0x0200685,
     0x0200695, 0x02006A5, 0x02006B5, 0x02006C5, 0x02006D5, 0x02006E5, 0x02006F5].map (opcodeOf 1) =
    these [.rtsImp, .adcIzx, .unknown 0x62, .unknown 0x63, .stzZp, .adcZp, .rorZp, .unknown 0x67, .plaImp, .adcImm,
     .rorAcc, .unknown 0x6B, .jmpInd, .adcAbs, .rorAbs, .unknown 0x6F] := by rfl

/-- Words `F 0200 7x @7` under the extended variant (R61, R58). -/
theorem test_decode_extended_row_7 :
    [0x0200705, 0x0200715, 0x0200725, 0x0200735, 0x0200745, 0x0200755, 0x0200765, 0x0200775, 0x0200785,
     0x0200795, 0x02007A5, 0x02007B5, 0x02007C5, 0x02007D5, 0x02007E5, 0x02007F5].map (opcodeOf 1) =
    these [.bvsRel, .adcIzy, .adcIzp, .unknown 0x73, .stzZpx, .adcZpx, .rorZpx, .unknown 0x77, .seiImp, .adcAby,
     .plyImp, .unknown 0x7B, .jmpIax, .adcAbx, .rorAbx, .unknown 0x7F] := by rfl

/-- Words `F 0200 8x @7` under the extended variant (R61, R58). -/
theorem test_decode_extended_row_8 :
    [0x0200805, 0x0200815, 0x0200825, 0x0200835, 0x0200845, 0x0200855, 0x0200865, 0x0200875, 0x0200885,
     0x0200895, 0x02008A5, 0x02008B5, 0x02008C5, 0x02008D5, 0x02008E5, 0x02008F5].map (opcodeOf 1) =
    these [.braRel, .staIzx, .unknown 0x82, .unknown 0x83, .styZp, .staZp, .stxZp, .unknown 0x87, .deyImp, .bitImm,
     .txaImp, .unknown 0x8B, .styAbs, .staAbs, .stxAbs, .unknown 0x8F] := by rfl

/-- Words `F 0200 9x @7` under the extended variant (R61, R58). -/
theorem test_decode_extended_row_9 :
    [0x0200905, 0x0200915, 0x0200925, 0x0200935, 0x0200945, 0x0200955, 0x0200965, 0x0200975, 0x0200985,
     0x0200995, 0x02009A5, 0x02009B5, 0x02009C5, 0x02009D5, 0x02009E5, 0x02009F5].map (opcodeOf 1) =
    these [.bccRel, .staIzy, .staIzp, .unknown 0x93, .styZpx, .staZpx, .stxZpy, .unknown 0x97, .tyaImp, .staAby,
     .txsImp, .unknown 0x9B, .stzAbs, .staAbx, .stzAbx, .unknown 0x9F] := by rfl

/-- Words `F 0200 Ax @7` under the extended variant (R61, R58). -/
theorem test_decode_extended_row_A :
    [0x0200A05, 0x0200A15, 0x0200A25, 0x0200A35, 0x0200A45, 0x0200A55, 0x0200A65, 0x0200A75, 0x0200A85,
     0x0200A95, 0x0200AA5, 0x0200AB5, 0x0200AC5, 0x0200AD5, 0x0200AE5, 0x0200AF5].map (opcodeOf 1) =
    these [.ldyImm, .ldaIzx, .ldxImm, .unknown 0xA3, .ldyZp, .ldaZp, .ldxZp, .unknown 0xA7, .tayImp, .ldaImm,
     .taxImp, .unknown 0xAB, .ldyAbs, .ldaAbs, .ldxAbs, .unknown 0xAF] := by rfl

/-- Words `F 0200 Bx @7` under the extended variant (R61, R58). -/
theorem test_decode_extended_row_B :
    [0x0200B05, 0x0200B15, 0x0200B25, 0x0200B35, 0x0200B45, 0x0200B55, 0x0200B65, 0x0200B75, 0x0200B85,
     0x0200B95, 0x0200BA5, 0x0200BB5, 0x0200BC5, 0x0200BD5, 0x0200BE5, 0x0200BF5].map (opcodeOf 1) =
    these [.bcsRel, .ldaIzy, .ldaIzp, .unknown 0xB3, .ldyZpx, .ldaZpx, .ldxZpy, .unknown 0xB7, .clvImp, .ldaAby,
     .tsxImp, .unknown 0xBB, .ldyAbx, .ldaAbx, .ldxAby, .unknown 0xBF] := by rfl

/-- Words `F 0200 Cx @7` under the extended variant (R61, R58). -/
theorem test_decode_extended_row_C :
    [0x0200C05, 0x0200C15, 0x0200C25, 0x0200C35, 0x0200C45, 0x0200C55, 0x0200C65, 0x0200C75, 0x0200C85,
     0x0200C95, 0x0200CA5, 0x0200CB5, 0x0200CC5, 0x0200CD5, 0x0200CE5, 0x0200CF5].map (opcodeOf 1) =
    these [.cpyImm, .cmpIzx, .unknown 0xC2, .unknown 0xC3, .cpyZp, .cmpZp, .decZp, .unknown 0xC7, .inyImp, .cmpImm,
     .dexImp, .unknown 0xCB, .cpyAbs, .cmpAbs, .decAbs, .unknown 0xCF] := by rfl

/-- Words `F 0200 Dx @7` under the extended variant (R61, R58). -/
theorem test_decode_extended_row_D :
    [0x0200D05, 0x0200D15, 0x0200D25, 0x0200D35, 0x0200D45, 0x0200D55, 0x0200D65, 0x0200D75, 0x0200D85,
     0x0200D95, 0x0200DA5, 0x0200DB5, 0x0200DC5, 0x0200DD5, 0x0200DE5, 0x0200DF5].map (opcodeOf 1) =
    these [.bneRel, .cmpIzy, .cmpIzp, .unknown 0xD3, .unknown 0xD4, .cmpZpx, .decZpx, .unknown 0xD7, .cldImp,
     .cmpAby, .phxImp, .unknown 0xDB, .unknown 0xDC, .cmpAbx, .decAbx, .unknown 0xDF] := by rfl

/-- Words `F 0200 Ex @7` under the extended variant (R61, R58). -/
theorem test_decode_extended_row_E :
    [0x0200E05, 0x0200E15, 0x0200E25, 0x0200E35, 0x0200E45, 0x0200E55, 0x0200E65, 0x0200E75, 0x0200E85,
     0x0200E95, 0x0200EA5, 0x0200EB5, 0x0200EC5, 0x0200ED5, 0x0200EE5, 0x0200EF5].map (opcodeOf 1) =
    these [.cpxImm, .sbcIzx, .unknown 0xE2, .unknown 0xE3, .cpxZp, .sbcZp, .incZp, .unknown 0xE7, .inxImp, .sbcImm,
     .nopImp, .unknown 0xEB, .cpxAbs, .sbcAbs, .incAbs, .unknown 0xEF] := by rfl

/-- Words `F 0200 Fx @7` under the extended variant (R61, R58). -/
theorem test_decode_extended_row_F :
    [0x0200F05, 0x0200F15, 0x0200F25, 0x0200F35, 0x0200F45, 0x0200F55, 0x0200F65, 0x0200F75, 0x0200F85,
     0x0200F95, 0x0200FA5, 0x0200FB5, 0x0200FC5, 0x0200FD5, 0x0200FE5, 0x0200FF5].map (opcodeOf 1) =
    these [.beqRel, .sbcIzy, .sbcIzp, .unknown 0xF3, .unknown 0xF4, .sbcZpx, .incZpx, .unknown 0xF7, .sedImp,
     .sbcAby, .plxImp, .unknown 0xFB, .unknown 0xFC, .sbcAbx, .incAbx, .unknown 0xFF] := by rfl

/-- The rows of the base variant that differ (R59), part 1. -/
theorem test_decode_base_rows_1 :
    [0x0200045, 0x02000C5, 0x0200125, 0x0200145, 0x02001A5, 0x02001C5, 0x0200325, 0x0200345, 0x02003A5,
     0x02003C5, 0x0200525, 0x02005A5, 0x0200645, 0x0200725].map (opcodeOf 0) =
    these [.unkBase04, .unkBase0C, .unkBase12, .unkBase14, .unkBase1A, .unkBase1C, .unkBase32, .unkBase34,
     .unkBase3A, .unkBase3C, .unkBase52, .unkBase5A, .unkBase64, .unkBase72] := by rfl

/-- The rows of the base variant that differ (R59), part 2. -/
theorem test_decode_base_rows_2 :
    [0x0200745, 0x02007A5, 0x02007C5, 0x0200805, 0x0200895, 0x0200925, 0x02009C5, 0x02009E5, 0x0200B25,
     0x0200D25, 0x0200DA5, 0x0200F25, 0x0200FA5].map (opcodeOf 0) =
    these [.unkBase74, .unkBase7A, .unkBase7C, .unkBase80, .unkBase89, .unkBase92, .unkBase9C, .unkBase9E,
     .unkBaseB2, .unkBaseD2, .unkBaseDA, .unkBaseF2, .unkBaseFA] := by rfl

/-! ### Single steps (spec/95_test_vectors.md). The states are those of V-FSM, from `RST 1 0`. -/

def idle : State := .reset
def idleStrict : State := { idle with cfgStrict := 1 }
def idleBase : State := { idle with cfgVariant := 0 }
/-- `Await(4C,0)`: `F 0200 4C @1`. -/
def await0 : State := { idle with st := .awaiting, n := 2, pOp := 0x4C, pPc := 0x0200, pStart := 1, pEnd := 1 }
/-- `Await(4C,1)`: the same after `R 0201 34 @2`. -/
def await1 : State := { await0 with n := 1, pB0 := 0x34, pCnt := 1, pEnd := 2 }
def await0Strict : State := { await0 with cfgStrict := 1 }
def resyncing : State := { idle with st := .resyncing }
def faulted : State :=
  { idleStrict with st := .faulted, fault := .ambiguousBusCycle, fTs := 5, fAddr := 0x0200, fData := 0xA9 }

/-- The state after an instruction; the state itself if it stops. -/
def after (i : Instr) (s : State) : State :=
  match exec i s with
  | .next t => t
  | .fault _ => s
  | .refused _ => s

/-- The state after one step on a raw word. -/
def afterWord (ts : Timestamp) (w : RawWord) (s : State) : State :=
  match step { s with inputs := [{ quietSample with inValid := true, inTs := ts, inRaw := w }] } with
  | .next t => t
  | .fault _ => s
  | .refused _ => s

/-- `JMP` truncated at `Await(4C,0)`. -/
def jmpCut0 : Record where
  kind := .truncated
  reason := .desync
  err := .truncatedInstruction
  opcode := 0x4C
  mn := mn 'J' 'M' 'P'
  mode := .absolute
  len := 3
  cnt := 0
  b0 := 0
  b1 := 0
  pc := 0x0200
  target := 0
  text := text ['J', 'M', 'P']
  startTs := 1
  endTs := 1

/-- `JMP` truncated at `Await(4C,1)`. -/
def jmpCut1 : Record := { jmpCut0 with cnt := 1, b0 := 0x34, endTs := 2 }

/-- The record of opcode 02 fetched at `pc`, time `t`. -/
def unknown02 (pc : Addr) (t : Timestamp) : Record where
  kind := .unknown
  reason := .none
  err := .unknownOpcode
  opcode := 0x02
  mn := mn '?' '?' '?'
  mode := .implied
  len := 1
  cnt := 0
  b0 := 0
  b1 := 0
  pc := pc
  target := 0
  text := text ['?', '?', '?']
  startTs := t
  endTs := t

/-- V-FSM 1, S-A: `F 0200 A9 @5` in `Idle`, extended variant. -/
theorem test_step_fetch_two_bytes :
    afterWord 5 0x0200A95 idle =
      { idle with st := .awaiting, n := 1, pOp := 0xA9, pPc := 0x0200, pStart := 5, pEnd := 5 } := by rfl
/-- V-FSM 2. -/
theorem test_step_fetch_three_bytes : (afterWord 5 0x02004C5 idle).n = 2 := by decide
/-- V-FSM 3, S-E. -/
theorem test_step_fetch_unknown :
    (afterWord 5 0x0200025 idle).st = .idle ∧ (afterWord 5 0x0200025 idle).out = [unknown02 0x0200 5] := by decide
/-- V-FSM 4. -/
theorem test_step_read_idle : afterWord 5 0x0080551 idle = idle := by rfl
/-- V-FSM 5. -/
theorem test_step_write_idle : afterWord 5 0x0080550 idle = idle := by rfl
/-- V-FSM 6. -/
theorem test_step_ambiguous_soft : afterWord 5 0x0200A99 idle = resyncing := by rfl
/-- V-FSM 7. -/
theorem test_step_ambiguous_strict : afterWord 5 0x0200A99 idleStrict = faulted := by rfl
/-- V-FSM 8. -/
theorem test_step_first_operand : afterWord 2 0x0201341 await0 = await1 := by rfl
/-- V-FSM 9, S-B: the low byte arrives first. -/
theorem test_step_last_operand :
    (afterWord 3 0x0202121 await1).st = .idle ∧
    (afterWord 3 0x0202121 await1).out =
      [{ jmpCut0 with kind := .complete, reason := .none, err := .none, cnt := 2, b0 := 0x34, b1 := 0x12
                      text := text ['J', 'M', 'P', ' ', '1', '2', '3', '4'], endTs := 3 }] := by decide
/-- S-A: `R 0201 05 @11` completes `LDA #05`. -/
theorem test_step_scenario_A :
    (after (.read ⟨11, 0x0201, 0x05⟩) (after (.ldaImm ⟨10, 0x0200⟩) idle)).out.map Record.text =
      [text ['L', 'D', 'A', ' ', '#', '0', '5']] := by decide
/-- S-C: `BPL PC+0207`. -/
theorem test_step_scenario_C :
    (after (.read ⟨31, 0x0201, 0x05⟩) (after (.bplRel ⟨30, 0x0200⟩) idle)).out.map (fun r => (r.text, r.target)) =
      [(text ['B', 'P', 'L', ' ', 'P', 'C', '+', '0', '2', '0', '7'], 0x0207)] := by decide
/-- V-FSM 10, S-D. -/
theorem test_step_unexpected_fetch :
    (afterWord 3 0x0300A95 await1).st = .awaiting ∧ (afterWord 3 0x0300A95 await1).n = 1 ∧
    (afterWord 3 0x0300A95 await1).out = [jmpCut1] := by decide
/-- V-FSM 11: two records, the truncated one first (R140). -/
theorem test_step_two_records :
    (afterWord 2 0x0300025 await0).st = .idle ∧
    (afterWord 2 0x0300025 await0).out = [jmpCut0, unknown02 0x0300 2] := by decide
/-- V-FSM 12. -/
theorem test_step_write_open : afterWord 3 0x01FF000 await1 = await1 := by rfl
/-- V-FSM 13. -/
theorem test_step_ambiguous_open_soft :
    (afterWord 3 0x020212A await1).st = .resyncing ∧ (afterWord 3 0x020212A await1).n = 0 ∧
    (afterWord 3 0x020212A await1).out = [jmpCut1] := by decide
/-- V-FSM 14. -/
theorem test_step_ambiguous_open_strict :
    (afterWord 2 0x0201342 await0Strict).st = .faulted ∧
    (afterWord 2 0x0201342 await0Strict).fault.code = 3 ∧ (afterWord 2 0x0201342 await0Strict).fTs = 2 ∧
    (afterWord 2 0x0201342 await0Strict).fAddr = 0x0201 ∧ (afterWord 2 0x0201342 await0Strict).fData = 0x34 ∧
    (afterWord 2 0x0201342 await0Strict).out = [jmpCut0] := by decide
/-- V-FSM 15, S-F. -/
theorem test_step_eos_open :
    (after .eos await1).st = .idle ∧ (after .eos await1).out = [{ jmpCut1 with reason := .endOfStream }] := by decide
/-- V-FSM 16. -/
theorem test_step_fetch_resyncing :
    (afterWord 9 0x0210A95 resyncing).st = .awaiting ∧ (afterWord 9 0x0210A95 resyncing).n = 1 := by decide
/-- V-FSM 17. -/
theorem test_step_fetch_unknown_resyncing :
    (afterWord 9 0x0210025 resyncing).st = .idle ∧
    (afterWord 9 0x0210025 resyncing).out = [unknown02 0x0210 9] := by decide
/-- V-FSM 18 to 20. -/
theorem test_step_resyncing_ignores :
    afterWord 9 0x0203991 resyncing = resyncing ∧ afterWord 9 0x0100010 resyncing = resyncing ∧
    afterWord 9 0x0204004 resyncing = resyncing := ⟨rfl, rfl, rfl⟩
/-- V-FSM 21, 22. -/
theorem test_step_eos_closed : after .eos resyncing = idle ∧ after .eos idle = idle := ⟨rfl, rfl⟩
/-- V-FSM 23 to 25. -/
theorem test_step_faulted_absorbs :
    afterWord 9 0x0204A95 faulted = faulted ∧ afterWord 9 0x0205001 faulted = faulted ∧
    afterWord 9 0x020500A faulted = faulted ∧ after .eos faulted = faulted := ⟨rfl, rfl, rfl, rfl⟩
/-- V-FSM 26. -/
theorem test_step_reset_faulted :
    (after (.reset 1 0) faulted).st = .idle ∧ (after (.reset 1 0) faulted).fault = .none ∧
    (after (.reset 1 0) faulted).cfgStrict = 0 ∧ (after (.reset 1 0) await1).pCnt = 0 := ⟨rfl, rfl, rfl, rfl⟩
/-- P5: opcode 80 is BRA in the extended table and unknown in the base table. -/
theorem test_step_variant :
    (afterWord 1 0x0200805 idle).st = .awaiting ∧
    (afterWord 1 0x0200805 idleBase).out.map Record.text = [text ['?', '?', '?']] := by decide
/-- R167: a raw cycle first, and the end-of-stream presented with it in the next step. -/
theorem test_step_priority :
    (match step { await0 with inputs := [⟨false, 0, 0, true, 2, 0x0201341, true⟩] } with
     | .next t => some (t.n, t.inputs)
     | .fault _ => none
     | .refused _ => none) = some (1, [⟨false, 0, 0, false, 2, 0x0201341, true⟩]) := by decide

/-! ### Text (V-RES, V-BRA) and the mux (V-TAB) -/

def xyz : Mnemonic := mn 'X' 'Y' 'Z'

/-- V-RES, modes 0 to 4. -/
theorem test_format_modes_0_4 :
    [AddrMode.implied, .impliedAccumulator, .relative, .immediate, .zeroPage].map
      (fun m => (byteLength blockParams m, format blockParams xyz m 0x3C 0xA7 0x1000)) =
      [(1, text ['X', 'Y', 'Z']), (1, text ['X', 'Y', 'Z', ' ', 'A']),
       (2, text ['X', 'Y', 'Z', ' ', 'P', 'C', '+', '1', '0', '3', 'E']),
       (2, text ['X', 'Y', 'Z', ' ', '#', '3', 'C']), (2, text ['X', 'Y', 'Z', ' ', '3', 'C'])] := by decide
/-- V-RES, modes 5 to 9. -/
theorem test_format_modes_5_9 :
    [AddrMode.zeroPageX, .zeroPageY, .indexedIndirect, .indirectIndexed, .indirect].map
      (fun m => (byteLength blockParams m, format blockParams xyz m 0x3C 0xA7 0x1000)) =
      [(2, text ['X', 'Y', 'Z', ' ', '3', 'C', ',', 'X']), (2, text ['X', 'Y', 'Z', ' ', '3', 'C', ',', 'Y']),
       (2, text ['X', 'Y', 'Z', ' ', '(', '3', 'C', ',', 'X', ')']),
       (2, text ['X', 'Y', 'Z', ' ', '(', '3', 'C', ')', ',', 'Y']),
       (2, text ['X', 'Y', 'Z', ' ', '(', '3', 'C', ')'])] := by decide
/-- V-RES, modes 10 to 14. -/
theorem test_format_modes_10_14 :
    [AddrMode.absolute, .absoluteX, .absoluteY, .absoluteIndirect16, .absoluteIndirectX].map
      (fun m => (byteLength blockParams m, format blockParams xyz m 0x3C 0xA7 0x1000)) =
      [(3, text ['X', 'Y', 'Z', ' ', 'A', '7', '3', 'C']), (3, text ['X', 'Y', 'Z', ' ', 'A', '7', '3', 'C', ',', 'X']),
       (3, text ['X', 'Y', 'Z', ' ', 'A', '7', '3', 'C', ',', 'Y']),
       (3, text ['X', 'Y', 'Z', ' ', '(', 'A', '7', '3', 'C', ')']),
       (3, text ['X', 'Y', 'Z', ' ', '(', 'A', '7', '3', 'C', ',', 'X', ')'])] := by decide
/-- V-BRA, all ten. -/
theorem test_branch_targets :
    [branchTarget 0x0200 0x05, branchTarget 0x0200 0xFB, branchTarget 0x0200 0x00, branchTarget 0x0200 0xFE,
     branchTarget 0x0200 0x7F, branchTarget 0x0200 0x80, branchTarget 0xFFFE 0x05, branchTarget 0x0000 0x80,
     branchTarget 0xFFFF 0xFF, branchTarget 0x00FE 0x00] =
      [0x0207, 0x01FD, 0x0202, 0x0200, 0x0281, 0x0182, 0x0005, 0xFF82, 0x0000, 0x0100] := by decide

/-- A hand-made table: the four entries of R74 to R77, and (`"???"`, Absolute) everywhere else in the base half. -/
def handTable (v : BitVec 1) (op : Byte) : Descriptor :=
  if v = 0 then ⟨mn '?' '?' '?', .absolute⟩
  else if op = 0xA9 then ⟨mn 'L' 'D' 'A', .immediate⟩
  else if op = 0x4C then ⟨mn 'J' 'M' 'P', .absolute⟩
  else if op = 0x10 then ⟨mn 'B' 'P' 'L', .relative⟩
  else ⟨mn '?' '?' '?', .implied⟩

/-- A hand-made mode table: the source's four lengths, and three bytes for the other modes (D7). -/
def handModes : ModeTable
  | .implied => ⟨.op1, .implied⟩
  | .relative => ⟨.op2, .relative⟩
  | .immediate => ⟨.op2, .immediate⟩
  | m => ⟨.op3, m⟩

/-- Parameters beside the defaults: other tables, no branch prefix, 16-bit timestamps. -/
def handParams : Params := ⟨handTable, handModes, [], 16⟩

theorem test_hand_modes_admissible : AdmissibleModes handParams where
  template m := by cases m <;> rfl
  implied := rfl
  relative := rfl
  immediate := rfl
  absolute := rfl

theorem test_block_mode_lengths :
    [AddrMode.implied, .relative, .immediate, .absolute].map (byteLength blockParams) = [1, 2, 2, 3] := by decide

/-- V-TAB, last row (R73). -/
theorem test_mux_forces_implied : lookup handParams 0 0x55 = ⟨mn '?' '?' '?', .implied⟩ := by decide

/-! ### Codes and packed words -/

/-- R52: `LDA` is `0x4C4441`, Immediate is code 3; R54: Absolute is length 3, template 10. -/
theorem test_packed_words :
    Descriptor.word ⟨mn 'L' 'D' 'A', .immediate⟩ = 0x4C44413 ∧ modeRead blockParams 10 = .ok 0x3A ∧
    modeRead blockParams 0 = .ok 0x10 ∧ modeRead blockParams 15 = .error .reservedModeCode := ⟨rfl, rfl, rfl, rfl⟩

/-- R19, R11, R18: the status port after a hard error, and while two operand bytes are awaited. -/
theorem test_status_port : faulted.status = ⟨3, 0, 3⟩ ∧ await0.status = ⟨1, 2, 0⟩ ∧ resyncing.status = ⟨2, 0, 0⟩ := by
  decide

/-! ### Host interface -/

/-- `BRA` is `0x180`, its base row `0x080`; 8-bit rows mean the same under both variants. -/
theorem test_tableWord_rows :
    decodeTableWord 16 0x180 = some (.braRel ⟨0, 0⟩) ∧ decodeTableWord 16 0x080 = some (.unkBase80 ⟨0, 0⟩) ∧
    decodeTableWord 8 0xA9 = some (.ldaImm ⟨0, 0⟩) ∧ decodeTableWord 8 0x5 = some (.fetch ⟨0, 0, 0⟩) ∧
    decodeTableWord 8 0x1 = some (.read ⟨0, 0, 0⟩) ∧ decodeTableWord 8 0x2 = some (.ambigRnw 0 2 ⟨0, 0, 0⟩) :=
  ⟨rfl, rfl, rfl, rfl, rfl, rfl⟩

/-- `withFetchWord` places the word where the next step takes it, and that step runs it. -/
theorem test_withFetchWord_runs :
    step (State.reset.withFetchWord 8 0xA9) = exec (.ldaImm ⟨0, 0⟩) State.reset ∧
    step (State.reset.withFetchWord 16 0x080) =
      exec (.unkBase80 ⟨0, 0⟩) { State.reset with cfgVariant := 0 } := ⟨rfl, rfl⟩

/-! ### Witnesses: for every statement with hypotheses, inputs that meet them -/

/-- a cycle with every field at its largest value -/
def topCycle : Cycle := ⟨0xFFFFFFFFFFFFFFFF, 0xFFFF, 0xFF⟩

theorem witness_DecodeOfEncodedEventIsTheEvent :
    Instr.isEvent (.ambigSync 3 3 topCycle) = true ∧ Instr.wf (.ambigSync 3 3 topCycle) = true ∧
    Instr.isEvent (.ambigRnw 1 3 topCycle) = true ∧ Instr.wf (.ambigRnw 1 3 topCycle) = true ∧
    Instr.isEvent (.reset 1 1) = true ∧ Instr.wf (.reset 1 1) = true := by decide

theorem witness_DecodeOfEncodedOpcodeIsTheOpcode :
    Instr.isEvent (.stzAbx at0200) = false ∧ Instr.wf (.stzAbx at0200) = true ∧
    Instr.inVariant (.stzAbx at0200) 1 = true ∧ Instr.isEvent (.unkBase9E at0200) = false ∧
    Instr.wf (.unkBase9E at0200) = true ∧ Instr.inVariant (.unkBase9E at0200) 0 = true ∧
    Instr.isEvent (.unknown 0xFF at0200) = false ∧ Instr.wf (.unknown 0xFF at0200) = true ∧
    Instr.inVariant (.unknown 0xFF at0200) 0 = true := by decide

theorem witness_DecodedInstructionsAreWellFormed :
    decode (rawAt7 0x02004CF) = .ok (.ambigSync 3 3 ⟨7, 0x0200, 0x4C⟩, none) ∧
    decodeOpcode 0 (rawAt7 0x0200FA5) = .ok (.unkBaseFA at0200) := ⟨rfl, rfl⟩

theorem witness_PackedWordsRoundTripAndRejectReserved :
    (0xFFFFFFF : BitVec 28).extractLsb' 0 4 = 15 ∧ (0x0F : BitVec 6).extractLsb' 4 2 = 0 := by decide

/-- a raw cycle presented together with end-of-stream -/
def lastFetch : PortSample := ⟨false, 0, 0, true, 7, 0x0200EA5, true⟩

theorem witness_StepRunsTheDecodedEvent :
    ({ idle with inputs := [lastFetch] } : State).inputs = lastFetch :: [] ∧
    decode lastFetch = .ok (.fetch ⟨7, 0x0200, 0xEA⟩, some ⟨false, 0, 0, false, 7, 0x0200EA5, true⟩) := ⟨rfl, rfl⟩

theorem witness_StepRunsTheDecodedTargetOpcode :
    ({ idleBase with inputs := [lastFetch] } : State).inputs = lastFetch :: [] ∧
    decodeOpcode idleBase.cfgVariant lastFetch = .ok (.nopImp at0200) := ⟨rfl, rfl⟩

theorem witness_StepWithNothingPresentedWaits :
    idle.inputs = [] ∧ ({ idle with inputs := [quietSample] } : State).inputs = quietSample :: [] ∧
    quietSample.rst = false ∧ quietSample.inValid = false ∧ quietSample.inEos = false := by decide

theorem witness_PresentedEventsFollowTheirPriority :
    ({ lastFetch with rst := true } : PortSample).rst = true ∧ lastFetch.rst = false ∧ lastFetch.inValid = true ∧
    lastFetch.inEos = true := by decide

theorem witness_StepRefinesThePureFunction :
    lastFetch.event = some (.raw 7 0x0200EA5) ∧ ({ quietSample with inEos := true } : PortSample).event = some .eos ∧
    ({ lastFetch with rst := true } : PortSample).event = some (.reset 0 0) := ⟨rfl, rfl, rfl⟩

theorem witness_ConfigurationPinsAreReadAtResetOnly :
    (rawAt7 0x0200A95).rst = false ∧ ((rawAt7 0x0200A95).inValid = false ∨ (rawAt7 0x0200A95).inEos = false) ∧
    (⟨false, 1, 1, false, 0, 0, true⟩ : PortSample).rst = false ∧
    ((⟨false, 1, 1, false, 0, 0, true⟩ : PortSample).inValid = false ∨
      (⟨false, 1, 1, false, 0, 0, true⟩ : PortSample).inEos = false) := by decide

theorem witness_FetchOpensOrClosesAnInstruction :
    (idle.st = .idle ∨ idle.st = .resyncing) ∧ (resyncing.st = .idle ∨ resyncing.st = .resyncing) ∧
    byteLength blockParams (lookup blockParams idle.cfgVariant 0xEA).mode = 1 ∧
    byteLength blockParams (lookup blockParams idle.cfgVariant 0xA9).mode ≠ 1 ∧
    byteLength blockParams (lookup blockParams resyncing.cfgVariant 0x4C).mode ≠ 1 := by decide

theorem witness_UnexpectedFetchTruncatesThenStarts : await0.st = .awaiting ∧ await1.st = .awaiting := by decide

theorem witness_ReadCollectsAnOperandByte :
    await0.st = .awaiting ∧ await0.n ≠ 1 ∧ await1.st = .awaiting ∧ await1.n = 1 := by decide

theorem witness_ReadWithoutOpenInstructionIsIgnored :
    (idle.st = .idle ∨ idle.st = .resyncing) ∧ (resyncing.st = .idle ∨ resyncing.st = .resyncing) := by decide

theorem witness_AmbiguousCycleWithoutOpenInstruction :
    (Instr.ambigRnw 1 2 topCycle = .ambigInconsistent topCycle ∨ Instr.ambigRnw 1 2 topCycle = .ambigSync 1 2 topCycle ∨
      Instr.ambigRnw 1 2 topCycle = .ambigRnw 1 2 topCycle) ∧
    (resyncing.st = .idle ∨ resyncing.st = .resyncing) ∧ resyncing.cfgStrict = 0 ∧
    (idleStrict.st = .idle ∨ idleStrict.st = .resyncing) ∧ idleStrict.cfgStrict = 1 :=
  ⟨.inr (.inr rfl), .inr rfl, rfl, .inl rfl, rfl⟩

theorem witness_AmbiguousCycleTruncatesTheOpenInstruction :
    (Instr.ambigSync 2 0 topCycle = .ambigInconsistent topCycle ∨ Instr.ambigSync 2 0 topCycle = .ambigSync 2 0 topCycle ∨
      Instr.ambigSync 2 0 topCycle = .ambigRnw 2 0 topCycle) ∧
    await1.st = .awaiting ∧ await1.cfgStrict = 0 ∧ await0Strict.st = .awaiting ∧ await0Strict.cfgStrict = 1 :=
  ⟨.inr (.inl rfl), rfl, rfl, rfl, rfl⟩

theorem witness_EndOfStreamFlushesTheOpenInstruction :
    await1.st = .awaiting ∧ idle.st = .idle ∧ resyncing.st = .resyncing ∧ faulted.st = .faulted := by decide

theorem witness_FaultedIgnoresAllButReset :
    faulted.st = .faulted ∧ (∀ v strict, Instr.eos ≠ .reset v strict) ∧
    (∀ v strict, Instr.ldaImm at0200 ≠ .reset v strict) := ⟨rfl, nofun, nofun⟩

theorem witness_ResetEventLeavesIdleAndLatchesPins :
    (∀ v strict, Instr.fetch topCycle ≠ .reset v strict) ∧ (∃ t, exec (.fetch topCycle) faulted = .next t) ∧
    faulted.st = .faulted := ⟨nofun, ⟨_, rfl⟩, rfl⟩

theorem witness_ClosedRecordFields :
    (⟨mn 'J' 'M' 'P', .absolute⟩ : Descriptor) = lookup blockParams await1.cfgVariant await1.pOp := by decide

theorem witness_TruncatedRecordFields :
    (⟨mn 'J' 'M' 'P', .absolute⟩ : Descriptor) = lookup blockParams await0.cfgVariant await0.pOp ∧
    AdmissibleModes handParams ∧ lookup handParams await0.cfgVariant await0.pOp = ⟨mn 'J' 'M' 'P', .absolute⟩ ∧
    await0.Inv handParams ∧ await0.st = .awaiting :=
  ⟨by decide, test_hand_modes_admissible, by decide, by decide, rfl⟩

theorem witness_LookupForcesUnknownToImplied :
    (handParams.optab 1 0xA9).mn ≠ mn '?' '?' '?' ∧ (handParams.optab 0 0x55).mn = mn '?' '?' '?' ∧
    AdmissibleModes handParams ∧ (lookup handParams 0 0x55).mn = mn '?' '?' '?' :=
  ⟨by decide, by decide, test_hand_modes_admissible, by decide⟩

theorem witness_BranchTargetIsSignedSumModulo :
    AdmissibleModes handParams ∧ (0x7F : Byte).getLsbD 7 = false ∧ (0x80 : Byte).getLsbD 7 = true :=
  ⟨test_hand_modes_admissible, by decide, by decide⟩

theorem witness_SourceFixesFourEntries : Admissible handParams where
  printable v op := by
    simp only [handParams, handTable]
    repeat' split
    all_goals decide
  ldaImmediate := by decide
  jmpAbsolute := by decide
  bplRelative := by decide
  unknown02 := by decide

theorem witness_TargetOpcodeMeansItsFetchCycle :
    Instr.wf (.unknown 0xFF at0200) = true ∧
    Instr.view (.unknown 0xFF at0200) = .target ⟨0xFF, .both, ⟨mn '?' '?' '?', .implied⟩⟩ at0200 ∧
    Instr.wf (.unkBase04 at0200) = true ∧
    Instr.view (.unkBase04 at0200) = .target ⟨0x04, .baseOnly, ⟨mn '?' '?' '?', .implied⟩⟩ at0200 := ⟨rfl, rfl, rfl, rfl⟩

/-- The row of a target opcode is admitted by the state's variant, the state has no instruction open. -/
def ready (i : Instr) (m : AddrMode) (s : State) : Bool :=
  match i.view with
  | .target row _ => row.desc.mode == m && row.variants.admits s.cfgVariant && (s.st == .idle || s.st == .resyncing)
  | _ => false

theorem witness_OneByteOpcodesCloseInTheirFetch :
    ready (.nopImp at0200) .implied idle = true ∧ ready (.aslAcc at0200) .impliedAccumulator resyncing = true ∧
    ready (.unk02 at0200) .implied idleBase = true ∧ ready (.unknown 0x03 at0200) .implied idle = true ∧
    ready (.unkBaseFA at0200) .implied idleBase = true ∧ ready (.plxImp at0200) .implied idle = true := by decide

theorem witness_TwoByteOpcodesCloseOnTheirRead :
    ready (.beqRel at0200) .relative idle = true ∧ ready (.ldaImm at0200) .immediate resyncing = true ∧
    ready (.staZp at0200) .zeroPage idle = true ∧ ready (.adcZpx at0200) .zeroPageX idle = true ∧
    ready (.ldxZpy at0200) .zeroPageY idle = true ∧ ready (.cmpIzx at0200) .indexedIndirect idle = true ∧
    ready (.eorIzy at0200) .indirectIndexed idleBase = true ∧ ready (.sbcIzp at0200) .indirect idle = true := by decide

theorem witness_ThreeByteOpcodesCloseOnTheirSecondRead :
    ready (.jmpAbs at0200) .absolute idle = true ∧ ready (.incAbx at0200) .absoluteX resyncing = true ∧
    ready (.ldxAby at0200) .absoluteY idle = true ∧ ready (.jmpInd at0200) .absoluteIndirect16 idleBase = true ∧
    ready (.jmpIax at0200) .absoluteIndirectX idle = true := by decide

theorem witness_EveryInstructionCompletesAndKeepsConfiguration :
    (∀ v strict, Instr.write topCycle ≠ .reset v strict) ∧ (∀ v strict, Instr.jmpIax at0200 ≠ .reset v strict) :=
  ⟨nofun, nofun⟩

theorem witness_EveryEventKeepsTheInvariant :
    await0.Inv blockParams ∧ await1.Inv blockParams ∧ resyncing.Inv blockParams ∧ faulted.Inv blockParams :=
  ⟨by decide, by decide, by decide, by decide⟩

theorem witness_EveryStepKeepsTheInvariant :
    ({ await1 with inputs := [rawAt7 0x0202121] } : State).Inv blockParams ∧
    ∃ t, step { await1 with inputs := [rawAt7 0x0202121] } = .next t := ⟨by decide, _, rfl⟩

theorem witness_AtMostTwoRecordsPerStep : (stepEvent blockParams await0 (.raw 2 0x0300025)).2.length = 2 := by decide

theorem witness_EmittedRecordsAreConsistent :
    AdmissibleModes handParams ∧ await0.Inv handParams ∧ await0.spanOk ∧ await1.Inv handParams ∧ await1.spanOk ∧
    (stepEvent handParams await0 (.raw 2 0x0300025)).2 ≠ [] :=
  ⟨test_hand_modes_admissible, by decide, by decide, by decide, by decide, by decide⟩

theorem witness_OnlyAStrictAmbiguousCycleFaults :
    idleStrict.fault = .none ∧ (eventStep blockParams idleStrict (.raw 5 0x0200A94)).fault ≠ .none := by decide

/-- a fetch, a read, an ambiguous cycle, and end-of-stream -/
def mixed : List Event := [.raw 5 0x0300A95, .raw 6 0x0301051, .raw 7 0x0302009, .eos]

theorem witness_FaultedAbsorbsEveryStreamWithoutReset : faulted.st = .faulted ∧ ∀ e ∈ mixed, e.isReset = false := by decide

theorem witness_SoftModeNeverFaults :
    await1.Inv blockParams ∧ await1.cfgStrict = 0 ∧ ∀ e ∈ mixed, e.isReset = false := by decide

/-- Three instructions of one, two and three bytes, with a write before an operand and data cycles after the first. -/
def three : List InsnCycles :=
  [⟨⟨1, 0x0200, 0xEA⟩, [], [.read ⟨2, 0x0201, 0xA9⟩, .write ⟨3, 0x0080, 0⟩]⟩,
   ⟨⟨4, 0x0201, 0xA9⟩, [⟨[⟨5, 0x0080, 0⟩], ⟨6, 0x0202, 0x05⟩⟩], []⟩,
   ⟨⟨7, 0x0203, 0x4C⟩, [⟨[], ⟨8, 0x0204, 0x34⟩⟩, ⟨[], ⟨9, 0x0205, 0x12⟩⟩], []⟩]

/-- The mode table of R54 is one of the admissible ones. -/
theorem test_block_modes_admissible : AdmissibleModes { blockParams with tsw := 16 } where
  template m := by cases m <;> rfl
  implied := rfl
  relative := rfl
  immediate := rfl
  absolute := rfl

theorem witness_RoundTripOfCompleteInstructions :
    AdmissibleModes { blockParams with tsw := 16 } ∧ idle.st = .idle ∧
    ∀ g ∈ three, g.fits { blockParams with tsw := 16 } idle.cfgVariant := by
  refine ⟨test_block_modes_admissible, rfl, ?_⟩
  intro g hg
  simp only [three, List.mem_cons, List.not_mem_nil, or_false] at hg
  rcases hg with rfl | rfl | rfl <;> rfl

theorem witness_EveryFetchIsClosedByOneRecord :
    await0.Inv blockParams ∧ await0.cfgStrict = 0 ∧ (∀ e ∈ mixed, e.isReset = false) ∧
    await0Strict.Inv blockParams ∧ (∀ e ∈ ([.raw 2 0x0201341, .raw 3 0x0300A95] : List Event), e.isReset = false) ∧
    (runEvents blockParams await0Strict [.raw 2 0x0201341, .raw 3 0x0300A95]).1.unfaulted :=
  ⟨by decide, by decide, by decide, by decide, by decide, by decide⟩

theorem witness_IdleAndResyncingGiveTheSameRecords :
    idle.st = .idle ∧ idle.cfgStrict = 0 ∧ Event.hasKind .ambiguous (.raw 5 0x0200A9A) = true ∧
    (Event.eos.hasKind .read = false ∧ Event.eos.hasKind .write = false) ∧
    (Event.hasKind .read (.raw 5 0x0200A95) = false ∧ Event.hasKind .write (.raw 5 0x0200A95) = false) ∧
    Event.hasKind .read (.raw 5 0x0200A91) = true ∧ Event.hasKind .write (.raw 5 0x0200A90) = true := by decide

theorem witness_UnspecifiedRegistersAreNeverRead_modes : AdmissibleModes handParams := test_hand_modes_admissible

/-- Two states that differ in every register no rule may read while no instruction is open. -/
theorem witness_UnspecifiedRegistersAreNeverRead :
    SameToTheRules idle
      { idle with pOp := 1, pB0 := 2, pB1 := 3, pCnt := 1, pPc := 4, pStart := 5, pEnd := 6, fTs := 7, fAddr := 8
                  fData := 9 } where
  st := rfl
  n := rfl
  cfgVariant := rfl
  cfgStrict := rfl
  fault := rfl
  opened := nofun
  firstByte := nofun
  secondByte := nofun
  faultRegs h := absurd rfl h

/-- ... and while an instruction with one operand byte is open. -/
theorem witness_UnspecifiedRegistersAreNeverRead_open : SameToTheRules await1 { await1 with pB1 := 3, fTs := 7 } where
  st := rfl
  n := rfl
  cfgVariant := rfl
  cfgStrict := rfl
  fault := rfl
  opened _ := ⟨rfl, rfl, rfl, rfl, rfl⟩
  firstByte _ _ := rfl
  secondByte _ h := absurd h (by decide)
  faultRegs h := absurd rfl h

theorem witness_TimestampsAreOnlyCopied :
    (∀ e ∈ mixed, e.isReset = false) ∧ await1.tsFits handParams ∧
    ∀ e ∈ Event.raw 0xFFFF 0x0300A95 :: .reset 1 0 :: mixed, e.tsFits handParams :=
  ⟨by decide, by decide, by simp [mixed, Event.tsFits, handParams]⟩

theorem witness_UnusedCycleFieldsHaveNoEffect : await1.cfgStrict = 0 ∧ ∀ e ∈ mixed, e.isReset = false := by decide

theorem witness_DecodingStartsAtTheNextFetch :
    (resyncing.st = .idle ∨ resyncing.st = .resyncing) ∧ resyncing.cfgStrict = 0 ∧
    ∀ e ∈ ([.raw 1 0x01FF001, .raw 2 0x01FE330, .raw 3 0x01FE339] : List Event),
      e.hasKind .read = true ∨ e.hasKind .write = true ∨ e.hasKind .ambiguous = true := by decide

end Sys2Proof.Tests
end

/-! Proofs about the opcode-table mux (spec/40_opcode_table.md): what `lookup` answers, once per branch, and its length. -/

namespace Sys2Proof.Machine

section Lookup

variable {P : Params} {v : BitVec 1} {op : Byte}

/-- R70: a named entry passes through the mux unchanged. -/
theorem lookup_of_named (h : (P.optab v op).mn ≠ unknownMnemonic) : lookup P v op = P.optab v op :=
  if_neg h

/-- R73: an entry with the unknown marker loses the mode the table holds. -/
theorem lookup_of_unknown (h : (P.optab v op).mn = unknownMnemonic) : lookup P v op = unknownDescriptor :=
  if_pos h

/-- Only the forced descriptor carries the marker: the mux keeps the mnemonic of a named entry, so no other answer has it. -/
theorem lookup_mn_eq_unknown_iff : (lookup P v op).mn = unknownMnemonic ↔ lookup P v op = unknownDescriptor := by
  refine ⟨fun hmark => ?_, fun hforced => by rw [hforced]; rfl⟩
  by_cases h : (P.optab v op).mn = unknownMnemonic
  · exact lookup_of_unknown h
  · rw [lookup_of_named h] at hmark
    exact absurd hmark h

/-- The marker comes with mode Implied, whose length the source fixes at 1 (R54). -/
theorem byteLength_lookup_unknown (hmodes : AdmissibleModes P) (hmark : (lookup P v op).mn = unknownMnemonic) :
    byteLength P (lookup P v op).mode = 1 := by
  rw [lookup_mn_eq_unknown_iff.mp hmark]
  exact hmodes.implied

end Lookup

/-- Settles O30, by the branch of the mux (R70, R73) that the table's entry selects. -/
theorem lookupForcesUnknownToImplied : Obligations.LookupForcesUnknownToImplied :=
  fun _ _ _ => ⟨lookup_of_named, lookup_of_unknown, byteLength_lookup_unknown⟩

end Sys2Proof.Machine

/-! Proofs about the mode resolver (spec/41_mode_resolver.md): hexadecimal rendering and the branch display transform. -/

namespace Sys2Proof.Machine

section Hexadecimal

/-- The ASCII code of a base-16 digit given as a number: `0`-`9` from 0x30, `A`-`F` from 0x41 (R97). -/
def asciiHexDigit (d : Nat) : Byte := if d < 10 then BitVec.ofNat 8 (0x30 + d) else BitVec.ofNat 8 (0x41 + (d - 10))

theorem hexDigit_eq_asciiHexDigit (d : BitVec 4) : hexDigit d = asciiHexDigit d.toNat := by
  by_cases h : d.toNat < 10
  · rw [hexDigit, asciiHexDigit, if_pos h, if_pos h]
  · rw [hexDigit, asciiHexDigit, if_neg h, if_neg h]
    have hcode : 55 + d.toNat = 0x41 + (d.toNat - 10) := by omega
    rw [hcode]

theorem hex2_eq_digits (b : Byte) : hex2 b = [b.toNat / 16, b.toNat % 16].map asciiHexDigit := by
  have hhigh : (b.extractLsb' 4 4).toNat = b.toNat / 16 := by
    rw [BitVec.extractLsb'_toNat, Nat.shiftRight_eq_div_pow]; omega
  have hlow : (b.extractLsb' 0 4).toNat = b.toNat % 16 := by
    rw [BitVec.extractLsb'_toNat, Nat.shiftRight_zero]
  simp only [hex2, hexDigit_eq_asciiHexDigit, hhigh, hlow, List.map]

/-- The digits of each byte of the word, high byte first, are those of the word. -/
theorem hex4_eq_digits (w : Addr) :
    hex4 w = [w.toNat / 4096, w.toNat / 256 % 16, w.toNat / 16 % 16, w.toNat % 16].map asciiHexDigit := by
  have hhigh : (w.extractLsb' 8 8).toNat = w.toNat / 256 := by
    rw [BitVec.extractLsb'_toNat, Nat.shiftRight_eq_div_pow]; omega
  have hlow : (w.extractLsb' 0 8).toNat = w.toNat % 256 := by
    rw [BitVec.extractLsb'_toNat, Nat.shiftRight_zero]
  have hfirst : w.toNat / 256 / 16 = w.toNat / 4096 := by omega
  have hthird : w.toNat % 256 / 16 = w.toNat / 16 % 16 := by omega
  have hfourth : w.toNat % 256 % 16 = w.toNat % 16 := by omega
  simp only [hex4, hex2_eq_digits, hhigh, hlow, hfirst, hthird, hfourth, List.map, List.cons_append, List.nil_append]

end Hexadecimal

section BranchTarget

/-- R51 (b): as a number, `sext_16` is the signed value of the byte modulo 2^16. -/
theorem toNat_off16 (b0 : Byte) : ((off16 b0).toNat : Int) = b0.toInt % 65536 := by
  have hext : (off16 b0).toNat = (b0.toInt % 65536).toNat := BitVec.toNat_ofInt (n := 16) b0.toInt
  omega

/-- R98: both additions wrap at 2^16. -/
theorem toNat_branchTarget (pc : Addr) (b0 : Byte) :
    ((branchTarget pc b0).toNat : Int) = ((pc.toNat : Int) + 2 + b0.toInt) % 65536 := by
  have hoff := toNat_off16 b0
  have hsum : (branchTarget pc b0).toNat = ((pc.toNat + 2) % 65536 + (off16 b0).toNat) % 65536 := by
    simp [branchTarget, BitVec.toNat_add]
  omega

/-- R51 (b): the high byte of `sext_16` is eight copies of the sign bit. -/
theorem off16_eq_append (b0 : Byte) : off16 b0 = (if b0.getLsbD 7 then 0xFF#8 else 0x00#8) ++ b0 :=
  BitVec.signExtend_eq_append_of_le (by decide)

theorem off16_of_nonneg {b0 : Byte} (h : b0.getLsbD 7 = false) : off16 b0 = 0x00#8 ++ b0 := by
  rw [off16_eq_append, h, if_neg Bool.false_ne_true]

theorem off16_of_neg {b0 : Byte} (h : b0.getLsbD 7 = true) : off16 b0 = 0xFF#8 ++ b0 := by
  rw [off16_eq_append, h, if_pos rfl]

theorem format_relative {P : Params} (hmodes : AdmissibleModes P) (m : Mnemonic) (b0 b1 : Byte) (pc : Addr) :
    format P m .relative b0 b1 pc = m.text ++ text [' '] ++ P.branchPrefix ++ hex4 (branchTarget pc b0) := by
  rw [format_admissible P hmodes]
  simp only [operandText, List.append_assoc]

end BranchTarget

/-- Settles O38: modular arithmetic on the sum, the sign bit of the displacement, and the template of Relative (R98). -/
theorem branchTargetIsSignedSumModulo : Obligations.BranchTargetIsSignedSumModulo :=
  ⟨toNat_branchTarget, fun _ => ⟨off16_of_nonneg, off16_of_neg⟩, fun _ m b0 b1 pc hmodes => format_relative hmodes m b0 b1 pc⟩

/-- Settles O37, from the base-16 digits of a byte and of the two bytes of a word (R97). -/
theorem hexadecimalRendering : Obligations.HexadecimalRendering := ⟨hex2_eq_digits, hex4_eq_digits⟩

end Sys2Proof.Machine

/-! Proofs about the bus sample classifier (spec/42_classifier.md): the levels of the line codes, the truth table over the
levels, and the fields of a packed raw word. -/

namespace Sys2Proof.Machine

section LineLevels

/-- R47: `01` is the only code of a high line. -/
theorem ofCode_eq_high_iff : ∀ code : BitVec 2, L3.ofCode code = .high ↔ code = 0b01 := by decide

/-- R47: `00` is the only code of a low line. -/
theorem ofCode_eq_low_iff : ∀ code : BitVec 2, L3.ofCode code = .low ↔ code = 0b00 := by decide

/-- The pseudocode of R106, over the two levels: three clean combinations and no other kind than ambiguous for the rest. -/
theorem classifyKind_eq_ite (s r : L3) :
    classifyKind s r =
      if s = .high ∧ r = .high then .fetch
      else if s = .low ∧ r = .high then .read
      else if s = .low ∧ r = .low then .write
      else .ambiguous := by
  cases s <;> cases r <;> rfl

end LineLevels

section PackedWord

variable (addr : Addr) (data : Byte) (sync rnw : BitVec 2)

@[simp] theorem rawRnw_packRaw : rawRnw (packRaw addr data sync rnw) = rnw :=
  BitVec.extractLsb'_append_eq_right

@[simp] theorem rawSync_packRaw : rawSync (packRaw addr data sync rnw) = sync := by
  rw [rawSync, packRaw, BitVec.extractLsb'_append_eq_of_le (by decide)]
  exact BitVec.extractLsb'_append_eq_right

@[simp] theorem rawData_packRaw : rawData (packRaw addr data sync rnw) = data := by
  rw [rawData, packRaw, BitVec.extractLsb'_append_eq_of_le (by decide), BitVec.extractLsb'_append_eq_of_le (by decide)]
  exact BitVec.extractLsb'_append_eq_right

@[simp] theorem rawAddr_packRaw : rawAddr (packRaw addr data sync rnw) = addr := by
  rw [rawAddr, packRaw, BitVec.extractLsb'_append_eq_of_le (by decide), BitVec.extractLsb'_append_eq_of_le (by decide)]
  exact BitVec.extractLsb'_append_eq_left

@[simp] theorem rawCycle_packRaw (ts : Timestamp) : rawCycle ts (packRaw addr data sync rnw) = ⟨ts, addr, data⟩ := by
  simp only [rawCycle, rawAddr_packRaw, rawData_packRaw]

/-- R112: the fields of the raw cycle pass through, and the kind is that of the levels of its two codes. -/
theorem classify_packRaw (ts : Timestamp) :
    classify ts (packRaw addr data sync rnw) =
      { ts := ts, addr := addr, data := data, kind := classifyKind (L3.ofCode sync) (L3.ofCode rnw) } := by
  simp only [classify, rawCycle_packRaw, rawSync_packRaw, rawRnw_packRaw]

end PackedWord

/-- Settles O3: the truth table over the levels (R106), with each level read back to its one code (R47). -/
theorem classifierFollowsTheTruthTable : Obligations.ClassifierFollowsTheTruthTable := by
  refine ⟨fun ts addr data sync rnw => ?_, rfl, rfl, rfl, rfl⟩
  rw [classify_packRaw, classifyKind_eq_ite]
  simp only [ofCode_eq_high_iff, ofCode_eq_low_iff]

end Sys2Proof.Machine

/-! Proofs about the reconstructor (spec/43_reconstructor.md): what an event reads of the state, the fields of its records, the
rules of level E as next states, the invariant of R20, and the laws of streams R142 and R143. -/

namespace Sys2Proof.Machine

section RecordFields

variable {P : Params} {d : Descriptor} {s : State}

theorem isUnknown_iff : isUnknown d = true ↔ d.mn = unknownMnemonic := beq_iff_eq

theorem closedKind_eq : closedKind d = if d.mn = unknownMnemonic then .unknown else .complete := by
  simp only [closedKind, isUnknown_iff]

theorem closedErr_eq : closedErr d = if d.mn = unknownMnemonic then .unknownOpcode else .none := by
  simp only [closedErr, isUnknown_iff]

theorem recB0_eq : recB0 s = if s.pCnt = 0 then 0 else s.pB0 := by
  by_cases h : s.pCnt = 0
  · rw [recB0, if_pos h, h]; rfl
  · have hpos : 1 ≤ s.pCnt.toNat := by bv_omega
    rw [recB0, if_pos hpos, if_neg h]

theorem recB1_eq : recB1 s = if s.pCnt = 2 then s.pB1 else 0 := by
  have htwo : s.pCnt.toNat = 2 ↔ s.pCnt = 2 := BitVec.toNat_inj (y := 2#2)
  simp only [recB1, htwo]

/-- Once an operand byte is in, the branch target is that of the record's own `b0`. -/
theorem recTarget_eq (h : d.mode = .relative → s.pCnt ≠ 0) :
    recTarget d s = if d.mode = .relative then branchTarget s.pPc (recB0 s) else 0 := by
  by_cases hmode : d.mode = .relative
  · rw [recTarget, if_pos hmode, if_pos hmode, recB0_eq, if_neg (h hmode)]
  · rw [recTarget, if_neg hmode, if_neg hmode]

end RecordFields

section StateReads

variable (P : Params) (d : Descriptor) (c : Cycle) (s : State)

/-- `START` writes `st` in both of its branches, so it does not matter what it was. -/
theorem start_setSt (t : StTag) : start P d c (s.setSt t) = start P d c s := by
  by_cases h : byteLength P d.mode = 1
  · rw [start_one _ _ _ _ h, start_one _ _ _ _ h]; rfl
  · rw [start_more _ _ _ _ h, start_more _ _ _ _ h]; rfl

/-- Records already emitted in the step stand before those of `START` (R140). -/
theorem start_emitted (r : Record) :
    start P d c (s.clearOut.emit r) =
      { start P d c s.clearOut with out := r :: (start P d c s.clearOut).out } := by
  by_cases h : byteLength P d.mode = 1
  · rw [start_one _ _ _ _ h, start_one _ _ _ _ h]; rfl
  · rw [start_more _ _ _ _ h, start_more _ _ _ _ h]; rfl

/-- R124 and R132: a fetch with nothing open is `START`, whichever of the two states it comes from. -/
theorem fetchWith_setSt (t : StTag) (ht : t = .idle ∨ t = .resyncing) :
    fetchWith P d c (s.setSt t) = start P d c s.clearOut := by
  rw [fetchWith_closed P d c _ ht]
  exact start_setSt P d c s.clearOut t

end StateReads

section Invariant

variable {P : Params} {s : State}

theorem fault_none_of_live (h : s.Inv P) (live : s.st ≠ .faulted) : s.fault = .none := by
  obtain ⟨_, _, hfault, _⟩ := h
  by_contra hne
  exact live (hfault.mpr hne)

/-- R20 for a state with nothing open and no hard error: `n` is 0, and strict mode is not Resyncing. -/
theorem inv_of_closed (hst : s.st = .idle ∨ s.st = .resyncing ∧ s.cfgStrict = 0) (hn : s.n = 0) (hfault : s.fault = .none) :
    s.Inv P := by
  rcases hst with hst | ⟨hst, hsoft⟩
  · simp [State.Inv, State.openOk, State.closedOk, State.faultOk, State.modeOk, hst, hn, hfault]
  · simp [State.Inv, State.openOk, State.closedOk, State.faultOk, State.modeOk, hst, hn, hfault, hsoft]

/-- R20 while an instruction is open: the counts of (b) are all there is to show. -/
theorem inv_of_open (hst : s.st = .awaiting) (hfault : s.fault = .none) (hopen : s.openOk P) : s.Inv P :=
  ⟨hopen, fun hclosed => absurd hst hclosed, by simp [State.faultOk, hst, hfault], by simp [State.modeOk, hst]⟩

/-- R20 in `Faulted`, which only strict mode reaches. -/
theorem inv_of_faulted (hst : s.st = .faulted) (hn : s.n = 0) (hfault : s.fault = .ambiguousBusCycle)
    (hstrict : s.cfgStrict = 1) : s.Inv P := by
  simp [State.Inv, State.openOk, State.closedOk, State.faultOk, State.modeOk, hst, hn, hfault, hstrict]

theorem byteLength_gt_one_of_open (h : s.Inv P) (isOpen : s.st = .awaiting) :
    1 < (byteLength P (openDescriptor P s).mode).toNat := by
  obtain ⟨hopen, _⟩ := h
  obtain ⟨_, _, _, _, hlen⟩ := hopen isOpen
  omega

/-- R20 (b) after `START` of an opcode of 2 or 3 bytes: all its operand bytes are awaited. -/
theorem openOk_after_start (hn : s.n = byteLength P (openDescriptor P s).mode - 1) (hcnt : s.pCnt = 0)
    (hlen : byteLength P (openDescriptor P s).mode ≠ 1) : s.openOk P := by
  intro _
  rcases byteLength_cases P (openDescriptor P s).mode with h | h | h
  · exact absurd h hlen
  · simp [hn, hcnt, h]
  · simp [hn, hcnt, h]

/-- R20 (b) after an operand byte that is not the last: one byte is in and one is awaited. -/
theorem openOk_after_operand (h : s.openOk P) (isOpen : s.st = .awaiting) (more : s.n ≠ 1) (c : Cycle) :
    (s.appendOperand c).openOk P := by
  intro _
  obtain ⟨hpos, htwo, _, hsum, hlen⟩ := h isOpen
  have hdesc : openDescriptor P (s.appendOperand c) = openDescriptor P s := rfl
  rw [hdesc, State.appendOperand_n, State.appendOperand_pCnt]
  bv_omega

/-- R141: each effect of the reconstructor keeps the invariant. -/
theorem Effect.inv {e : Event} {t : State} (he : Effect P s e t) (h : s.Inv P) : t.Inv P := by
  have hfault : s.st ≠ .faulted → s.fault = .none := fault_none_of_live h
  have ⟨hopen, hclosed, _, _⟩ := h
  cases he with
  | quiet _ _ _ => exact h
  | fetchOne ts w _ live _ => exact inv_of_closed (.inl rfl) rfl (hfault live)
  | fetchMore ts w _ live len =>
    exact inv_of_open rfl (hfault live) (openOk_after_start rfl rfl len)
  | operand ts w _ isOpen more =>
    exact inv_of_open isOpen (hfault (by simp [isOpen])) (openOk_after_operand hopen isOpen more (rawCycle ts w))
  | lastOperand ts w _ isOpen last =>
    have hn : s.n - 1 = 0 := by rw [last]; rfl
    exact inv_of_closed (.inl rfl) hn (hfault (by simp [isOpen]))
  | resync ts w _ live soft =>
    refine inv_of_closed (.inr ⟨rfl, soft⟩) ?_ (hfault live)
    by_cases isOpen : s.st = .awaiting
    · exact if_pos isOpen
    · exact (if_neg isOpen).trans (hclosed isOpen)
  | hardError ts w _ _ strict => exact inv_of_faulted rfl rfl rfl strict
  | flush isOpen => exact inv_of_closed (.inl rfl) rfl (hfault (by simp [isOpen]))
  | leaveResync resyncing =>
    exact inv_of_closed (.inl rfl) (hclosed (by simp [resyncing])) (hfault (by simp [resyncing]))
  | reset v strict => exact inv_of_closed (.inl rfl) rfl rfl

end Invariant

/-- Settles O46, by the effects one event can have (R141). -/
theorem everyEventKeepsTheInvariant : Obligations.EveryEventKeepsTheInvariant :=
  fun P s e h => (eventStep_effect P s e).inv h

section CleanCycles

variable (P : Params) (s : State) (c : Cycle)

/-- R107: the event of a clean fetch cycle is a fetch of that cycle. -/
theorem eventStep_fetchEvent : eventStep P s c.fetchEvent = fetchCycle P c s := by
  simp only [Cycle.fetchEvent, eventStep, classify_packRaw]; rfl

/-- R108: the event of a clean read cycle is a read of that cycle. -/
theorem eventStep_readEvent : eventStep P s c.readEvent = readCycle P c s := by
  simp only [Cycle.readEvent, eventStep, classify_packRaw]; rfl

/-- R109: the event of a clean write cycle is a write, which does nothing (R126, R130, R134). -/
theorem eventStep_writeEvent : eventStep P s c.writeEvent = s.clearOut := by
  simp only [Cycle.writeEvent, eventStep, classify_packRaw]; rfl

end CleanCycles

section RoundTrip

variable {P : Params} {s : State}

/-- Events that each do nothing but clear the step's output emit nothing together, and change no register. -/
theorem runEvents_of_ignored (es : List Event)
    (h : ∀ e ∈ es, ∀ o, eventStep P { s with out := o } e = { s with out := [] }) :
    ∃ o, runEvents P s es = ({ s with out := o }, []) := by
  induction es generalizing s with
  | nil => exact ⟨s.out, rfl⟩
  | cons e es ih =>
    have hfirst : eventStep P s e = { s with out := [] } := h e (by simp) s.out
    obtain ⟨o, ho⟩ := ih (s := { s with out := [] }) fun f hf => h f (by simp [hf])
    exact ⟨o, by rw [runEvents_cons, hfirst, ho]; rfl⟩

/-- Write cycles are ignored in every state (R126, R130, R134). -/
theorem runEvents_writes (ws : List Cycle) : ∃ o, runEvents P s (ws.map Cycle.writeEvent) = ({ s with out := o }, []) := by
  refine runEvents_of_ignored _ fun e he o => ?_
  obtain ⟨c, _, rfl⟩ := List.mem_map.mp he
  exact eventStep_writeEvent P { s with out := o } c

/-- Data cycles are ignored while no instruction is open (R125, R126, R133, R134). -/
theorem runEvents_dataCycles (hclosed : s.st ≠ .awaiting) (ds : List DataCycle) :
    ∃ o, runEvents P s (ds.map DataCycle.event) = ({ s with out := o }, []) := by
  refine runEvents_of_ignored _ fun e he o => ?_
  obtain ⟨d, _, rfl⟩ := List.mem_map.mp he
  cases d with
  | read c => exact (eventStep_readEvent P { s with out := o } c).trans (readCycle_closed P c { s with out := o } hclosed)
  | write c => exact eventStep_writeEvent P { s with out := o } c

/-- An operand that is not the last, with the writes before it: its byte is collected and nothing is emitted (R128). -/
theorem runEvents_operand_more (isOpen : s.st = .awaiting) (more : s.n ≠ 1) (o : OperandRead) :
    runEvents P s o.events = ({ s.appendOperand o.read with out := [] }, []) := by
  obtain ⟨rs, hwrites⟩ := runEvents_writes (P := P) (s := s) o.writes
  rw [OperandRead.events, runEvents_append, hwrites, runEvents_cons, eventStep_readEvent,
    readCycle_more P o.read { s with out := rs } isOpen more]
  rfl

/-- The last operand, with the writes before it, closes the instruction with its one record (R128, R122). -/
theorem runEvents_operand_last (isOpen : s.st = .awaiting) (last : s.n = 1) (o : OperandRead) :
    runEvents P s o.events =
      ({ s.appendOperand o.read with
          st := .idle, out := [completeRecord P (openDescriptor P s) (s.appendOperand o.read)] },
        [completeRecord P (openDescriptor P s) (s.appendOperand o.read)]) := by
  obtain ⟨rs, hwrites⟩ := runEvents_writes (P := P) (s := s) o.writes
  rw [OperandRead.events, runEvents_append, hwrites, runEvents_cons, eventStep_readEvent,
    readCycle_last P o.read { s with out := rs } isOpen last]
  rfl

/-- `START` of a longer opcode with nothing open: the registers while all its operand bytes are awaited (R121). -/
def State.opened (s : State) (c : Cycle) (k : BitVec 2) : State :=
  { s.openPending c with st := .awaiting, n := k, out := [] }

theorem eventStep_fetch_one (hst : s.st = .idle) {c : Cycle} (hlen : byteLength P (lookup P s.cfgVariant c.data).mode = 1) :
    eventStep P s c.fetchEvent =
      { s.openPending c with
        st := .idle, n := 0, out := [completeRecord P (lookup P s.cfgVariant c.data) (s.openPending c)] } := by
  rw [eventStep_fetchEvent, fetchCycle, fetchWith_closed _ _ _ _ (.inl hst), start_one _ _ _ _ hlen]
  rfl

theorem eventStep_fetch_more (hst : s.st = .idle) {c : Cycle} (hlen : byteLength P (lookup P s.cfgVariant c.data).mode ≠ 1) :
    eventStep P s c.fetchEvent = s.opened c (byteLength P (lookup P s.cfgVariant c.data).mode - 1) := by
  rw [eventStep_fetchEvent, fetchCycle, fetchWith_closed _ _ _ _ (.inl hst), start_more _ _ _ _ hlen]
  rfl

/-- The registers once these operand bytes are in: `appendOperand` (R128) of each read in turn. -/
def State.collect (s : State) (ops : List OperandRead) : State := ops.foldl (fun t o => t.appendOperand o.read) s

@[simp] theorem State.collect_nil : s.collect [] = s := rfl

@[simp] theorem State.collect_cons (o : OperandRead) (ops : List OperandRead) :
    s.collect (o :: ops) = (s.appendOperand o.read).collect ops := rfl

/-- Exactly the operand reads still awaited close the open instruction with one record of all its bytes (R128). -/
theorem runEvents_operands {ops : List OperandRead} (hops : ops ≠ []) (isOpen : s.st = .awaiting)
    (hn : s.n.toNat = ops.length) (hout : s.out = []) :
    ∃ t, runEvents P s (ops.flatMap OperandRead.events) = (t, [completeRecord P (openDescriptor P s) (s.collect ops)]) ∧
      t.st = .idle ∧ t.cfgVariant = s.cfgVariant := by
  induction ops generalizing s with
  | nil => exact absurd rfl hops
  | cons o rest ih =>
    rw [List.length_cons] at hn
    by_cases hrest : rest = []
    · have last : s.n = 1 := by rw [hrest, List.length_nil] at hn; bv_omega
      subst hrest
      rw [List.flatMap_singleton, runEvents_operand_last isOpen last]
      exact ⟨_, rfl, rfl, rfl⟩
    · have hpos : 0 < rest.length := List.length_pos_iff.mpr hrest
      have more : s.n ≠ 1 := by bv_omega
      have hnext : { s.appendOperand o.read with out := [] } = s.appendOperand o.read := by rw [← hout]; rfl
      obtain ⟨t, hrun, hidle, hvariant⟩ := ih (s := s.appendOperand o.read) hrest isOpen
        (by simp only [State.appendOperand_n]; bv_omega) hout
      rw [List.flatMap_cons, runEvents_append, runEvents_operand_more isOpen more, hnext, hrun]
      exact ⟨t, rfl, hidle, hvariant⟩

/-- Collecting leaves what the fetch wrote. -/
theorem State.collect_fetched (ops : List OperandRead) :
    (s.collect ops).pOp = s.pOp ∧ (s.collect ops).pPc = s.pPc ∧ (s.collect ops).pStart = s.pStart := by
  induction ops generalizing s with
  | nil => exact ⟨rfl, rfl, rfl⟩
  | cons o ops ih => exact ih (s := s.appendOperand o.read)

theorem State.collect_pCnt (ops : List OperandRead) : (s.collect ops).pCnt = s.pCnt + BitVec.ofNat 2 ops.length := by
  induction ops generalizing s with
  | nil => simp
  | cons o ops ih =>
    rw [State.collect_cons, ih, State.appendOperand_pCnt, List.length_cons]
    bv_omega

/-- R139: `p_end` is the timestamp of the last cycle that gave a byte. -/
theorem State.collect_pEnd (ops : List OperandRead) :
    (s.collect ops).pEnd = (ops.map fun o => o.read.ts).getLastD s.pEnd := by
  induction ops generalizing s with
  | nil => rfl
  | cons o ops ih => rw [State.collect_cons, ih, List.map_cons, List.getLastD_cons, State.appendOperand_pEnd]

/-- R122: the operand bytes of a record are the data of the reads in order, zero where there was none. -/
theorem recBytes_collect {ops : List OperandRead} (hcnt : s.pCnt = 0) (hlen : ops.length ≤ 2) :
    recB0 (s.collect ops) = (ops.map fun o => o.read.data).getD 0 0 ∧
    recB1 (s.collect ops) = (ops.map fun o => o.read.data).getD 1 0 := by
  match ops, hlen with
  | [], _ => simp [recB0_eq, recB1_eq, hcnt]
  | [o], _ => simp [recB0_eq, recB1_eq, hcnt]
  | [o₁, o₂], _ => simp [recB0_eq, recB1_eq, hcnt]

/-- The operand reads of an instruction that fits its mode are `byteLength - 1`, also as `p_cnt` counts them. -/
theorem InsnCycles.fits_count {v : BitVec 1} {g : InsnCycles} (h : g.fits P v) :
    g.operands.length ≤ 2 ∧ BitVec.ofNat 2 g.operands.length = byteLength P (g.desc P v).mode - 1 := by
  have hcount : g.operands.length + 1 = (byteLength P (g.desc P v).mode).toNat := h
  exact ⟨by omega, by bv_omega⟩

/-- The record of the pending registers, once the operand reads of `g` are in, is the one R142 demands. -/
theorem completeRecord_collect (hmodes : AdmissibleModes P) {v : BitVec 1} {g : InsnCycles} (hfits : g.fits P v)
    (hop : s.pOp = g.fetch.data) (hcnt : s.pCnt = 0) (hpc : s.pPc = g.fetch.addr) (hstart : s.pStart = g.fetch.ts)
    (hend : s.pEnd = g.fetch.ts) :
    completeRecord P (g.desc P v) (s.collect g.operands) = g.record P v := by
  obtain ⟨hlen, hcount⟩ := g.fits_count hfits
  obtain ⟨hop', hpc', hstart'⟩ := s.collect_fetched g.operands
  obtain ⟨hb0, hb1⟩ := recBytes_collect hcnt hlen
  have hcnt' : (s.collect g.operands).pCnt = byteLength P (g.desc P v).mode - 1 := by
    rw [State.collect_pCnt, hcnt, hcount, zero_add]
  have hrelative : (g.desc P v).mode = .relative → (s.collect g.operands).pCnt ≠ 0 := by
    intro hmode
    rw [hcnt', hmode, hmodes.relative]
    decide
  simp only [completeRecord, InsnCycles.record, closedKind_eq, closedErr_eq, recTarget_eq hrelative, hop', hop, hpc', hpc,
    hstart', hstart, State.collect_pEnd, hend, hcnt', hb0, hb1, InsnCycles.byte, InsnCycles.lastTs]

/-- The fetch and the operand reads of an instruction give its one record and lead back to `Idle` (R124, R128). -/
theorem runEvents_bytes (hmodes : AdmissibleModes P) (hst : s.st = .idle) {g : InsnCycles} (hfits : g.fits P s.cfgVariant) :
    ∃ t, runEvents P s (g.fetch.fetchEvent :: g.operands.flatMap OperandRead.events) = (t, [g.record P s.cfgVariant]) ∧
      t.st = .idle ∧ t.cfgVariant = s.cfgVariant := by
  have hcount : g.operands.length + 1 = (byteLength P (g.desc P s.cfgVariant).mode).toNat := hfits
  by_cases hlen : byteLength P (g.desc P s.cfgVariant).mode = 1
  · have hops : g.operands = [] := List.length_eq_zero_iff.mp (by simpa [hlen] using hcount)
    have hrecord := completeRecord_collect (s := s.openPending g.fetch) hmodes hfits rfl rfl rfl rfl rfl
    rw [hops] at hrecord ⊢
    rw [List.flatMap_nil, runEvents_cons, eventStep_fetch_one hst hlen, ← hrecord]
    exact ⟨_, rfl, rfl, rfl⟩
  · have hops : g.operands ≠ [] := by
      intro hnone
      rw [hnone, List.length_nil] at hcount
      bv_omega
    have hn : (byteLength P (g.desc P s.cfgVariant).mode - 1).toNat = g.operands.length := by bv_omega
    have hfetch : eventStep P s g.fetch.fetchEvent = s.opened g.fetch (byteLength P (g.desc P s.cfgVariant).mode - 1) :=
      eventStep_fetch_more hst hlen
    obtain ⟨t, hrun, hidle, hvariant⟩ := runEvents_operands (P := P)
      (s := s.opened g.fetch (byteLength P (g.desc P s.cfgVariant).mode - 1)) hops rfl hn rfl
    have hrecord := completeRecord_collect hmodes hfits (s := s.opened g.fetch (byteLength P (g.desc P s.cfgVariant).mode - 1))
      rfl rfl rfl rfl rfl
    rw [runEvents_cons, hfetch, hrun, ← hrecord]
    exact ⟨t, rfl, hidle, hvariant⟩

/-- The data cycles after the instruction add nothing. -/
theorem runEvents_instruction (hmodes : AdmissibleModes P) (hst : s.st = .idle) {g : InsnCycles}
    (hfits : g.fits P s.cfgVariant) :
    ∃ t, runEvents P s g.events = (t, [g.record P s.cfgVariant]) ∧ t.st = .idle ∧ t.cfgVariant = s.cfgVariant := by
  obtain ⟨t, hrun, hidle, hvariant⟩ := runEvents_bytes hmodes hst hfits
  obtain ⟨o, hafter⟩ := runEvents_dataCycles (P := P) (s := t) (by simp [hidle]) g.after
  rw [InsnCycles.events, ← List.cons_append, runEvents_append, hrun, hafter]
  exact ⟨{ t with out := o }, rfl, hidle, hvariant⟩

/-- R142 for the instructions alone, by induction on them. -/
theorem runEvents_instructions (hmodes : AdmissibleModes P) (hst : s.st = .idle) {gs : List InsnCycles}
    (hfits : ∀ g ∈ gs, g.fits P s.cfgVariant) :
    ∃ t, runEvents P s (gs.flatMap InsnCycles.events) = (t, gs.map (InsnCycles.record P s.cfgVariant)) ∧ t.st = .idle := by
  induction gs generalizing s with
  | nil => exact ⟨s, rfl, hst⟩
  | cons g gs ih =>
    obtain ⟨t, hrun, hidle, hvariant⟩ := runEvents_instruction hmodes hst (hfits g (by simp))
    obtain ⟨u, hruns, hidle'⟩ := ih (s := t) hidle fun g' hg' => by rw [hvariant]; exact hfits g' (by simp [hg'])
    rw [List.flatMap_cons, runEvents_append, hrun, hruns, hvariant]
    exact ⟨u, rfl, hidle'⟩

end RoundTrip

/-- Settles O53: the leading data cycles are ignored, and each instruction in turn gives its record (R142). -/
theorem roundTripOfCompleteInstructions : Obligations.RoundTripOfCompleteInstructions := by
  intro P s lead gs hmodes hst hfits
  obtain ⟨o, hlead⟩ := runEvents_dataCycles (P := P) (s := s) (by simp [hst]) lead
  obtain ⟨t, hruns, hidle⟩ := runEvents_instructions (s := { s with out := o }) hmodes hst hfits
  rw [runEvents_append, hlead, hruns]
  exact ⟨rfl, hidle⟩

section IdleAndResyncing

variable {P : Params} {s : State}

/-- R143: from `Resyncing` an event that is neither a read nor a write writes `st` and reads nothing of it. -/
theorem eventStep_resyncing_eq (hst : s.st = .idle) (hsoft : s.cfgStrict = 0) {e : Event} (hread : e.hasKind .read = false)
    (hwrite : e.hasKind .write = false) : eventStep P { s with st := .resyncing } e = eventStep P s e := by
  cases e with
  | reset v strict => rfl
  | eos =>
    simp only [eventStep]
    rw [endOfStream_resyncing _ _ rfl, endOfStream_idle _ _ hst, State.clearOut, ← hst]
  | raw ts w =>
    cases hkind : (classify ts w).kind with
    | fetch =>
      rw [eventStep_fetch _ _ _ _ hkind, eventStep_fetch _ _ _ _ hkind, fetchWith_closed _ _ _ s (.inl hst)]
      exact fetchWith_setSt P _ _ s .resyncing (.inr rfl)
    | read => simp [Event.hasKind, hkind] at hread
    | write => simp [Event.hasKind, hkind] at hwrite
    | ambiguous =>
      rw [eventStep_ambiguous _ _ _ _ hkind, eventStep_ambiguous _ _ _ _ hkind, ambiguousCycle_closed _ _ _ (.inr rfl),
        ambiguousCycle_closed _ _ s (.inl hst), ambiguousExit_soft _ s.clearOut hsoft]
      exact ambiguousExit_soft _ _ hsoft

/-- R125, R126, R133, R134: with nothing open a read or a write changes no register. -/
theorem eventStep_read_or_write (hclosed : s.st ≠ .awaiting) {e : Event}
    (h : e.hasKind .read = true ∨ e.hasKind .write = true) : eventStep P s e = { s with out := [] } := by
  cases e with
  | reset v strict => simp [Event.hasKind] at h
  | eos => simp [Event.hasKind] at h
  | raw ts w =>
    simp only [Event.hasKind, beq_iff_eq] at h
    rcases h with hkind | hkind
    · rw [eventStep_read _ _ _ _ hkind, readCycle_closed _ _ _ hclosed]; rfl
    · rw [eventStep_write _ _ _ _ hkind]; rfl

theorem eventStep_ambiguous_st (hst : s.st = .idle) (hsoft : s.cfgStrict = 0) {e : Event}
    (h : e.hasKind .ambiguous = true) : (eventStep P s e).st = .resyncing := by
  cases e with
  | reset v strict => simp [Event.hasKind] at h
  | eos => simp [Event.hasKind] at h
  | raw ts w =>
    simp only [Event.hasKind, beq_iff_eq] at h
    rw [eventStep_ambiguous _ _ _ _ h, ambiguousCycle_closed _ _ _ (.inl hst), ambiguousExit_soft _ s.clearOut hsoft]

/-- R143 over a stream: the two runs stay one in `Idle` and one in `Resyncing` over reads and writes, and coincide from the
first other event on. -/
theorem runEvents_resyncing (hst : s.st = .idle) (hsoft : s.cfgStrict = 0) (es : List Event) :
    (runEvents P { s with st := .resyncing } es).2 = (runEvents P s es).2 ∧
      (runEvents P { s with st := .resyncing } es).1.asIdle = (runEvents P s es).1.asIdle := by
  induction es generalizing s with
  | nil =>
    refine ⟨rfl, ?_⟩
    have hresync : State.asIdle { s with st := .resyncing } = { s with st := .idle } := if_pos rfl
    have hidle : s.asIdle = s := if_neg (by simp [hst])
    rw [runEvents_nil, runEvents_nil, hresync, hidle, ← hst]
  | cons e es ih =>
    rw [runEvents_cons, runEvents_cons]
    by_cases hdata : e.hasKind .read = true ∨ e.hasKind .write = true
    · have hresync : eventStep P { s with st := .resyncing } e = { s with st := .resyncing, out := [] } :=
        eventStep_read_or_write (by simp) hdata
      have hidle : eventStep P s e = { s with out := [] } := eventStep_read_or_write (by simp [hst]) hdata
      rw [hresync, hidle]
      exact ih (s := { s with out := [] }) hst hsoft
    · simp only [not_or, Bool.not_eq_true] at hdata
      obtain ⟨hread, hwrite⟩ := hdata
      rw [eventStep_resyncing_eq hst hsoft hread hwrite]
      exact ⟨rfl, rfl⟩

end IdleAndResyncing

/-- Settles O55: event by event, and over streams by induction (R143). -/
theorem idleAndResyncingGiveTheSameRecords : Obligations.IdleAndResyncingGiveTheSameRecords := by
  intro P s hst hsoft
  have heos : (eventStep P s .eos).st = .idle := (congrArg State.st (endOfStream_idle P s hst)).trans hst
  exact ⟨fun _ => eventStep_resyncing_eq hst hsoft, fun _ => eventStep_ambiguous_st hst hsoft, heos,
    fun _ hdata => ⟨eventStep_read_or_write (by simp [hst]) hdata, eventStep_read_or_write (by simp) hdata⟩,
    runEvents_resyncing hst hsoft⟩

section LevelE

/-! ### What `exec` answers on the cycle rows of level E -/

variable (c : Cycle) (s : State)

theorem exec_fetch : exec (.fetch c) s = .next (fetchCycle blockParams c s) := rfl

theorem exec_read : exec (.read c) s = .next (readCycle blockParams c s) := rfl

theorem exec_write : exec (.write c) s = .next s.clearOut := rfl

/-- The three rows of R110 and R111 have one meaning. -/
theorem exec_ambiguousRow {sync rnw : BitVec 2} {i : Instr}
    (h : i = .ambigInconsistent c ∨ i = .ambigSync sync rnw c ∨ i = .ambigRnw sync rnw c) :
    exec i s = .next (ambiguousCycle blockParams c s) := by
  rcases h with rfl | rfl | rfl <;> rfl

end LevelE

/-- Settles O19: `START` with nothing open, by the length of the opcode (R124, R132). -/
theorem fetchOpensOrClosesAnInstruction : Obligations.FetchOpensOrClosesAnInstruction := by
  intro c s hst
  rw [exec_fetch, fetchCycle, fetchWith_closed _ _ _ _ hst]
  exact ⟨fun hlen => by rw [start_one _ _ _ _ hlen]; rfl, fun hlen => by rw [start_more _ _ _ _ hlen]; rfl⟩

/-- Settles O20: `START` follows the truncated record and reads neither it nor `st` (R129). -/
theorem unexpectedFetchTruncatesThenStarts : Obligations.UnexpectedFetchTruncatesThenStarts := by
  intro c s hst
  refine ⟨start blockParams (lookup blockParams s.cfgVariant c.data) c s.clearOut, ?_, ?_⟩
  · exact congrArg Host.Outcome.next (fetchWith_setSt blockParams _ c s .idle (.inl rfl))
  · rw [exec_fetch, fetchCycle, fetchWith_open _ _ _ _ hst, closeTruncated, start_emitted]
    rfl

/-- Settles O21: an operand byte, by whether it is the last one awaited (R128). -/
theorem readCollectsAnOperandByte : Obligations.ReadCollectsAnOperandByte := by
  intro c s hst
  rw [exec_read]
  refine ⟨fun more => by rw [readCycle_more _ _ _ hst more]; rfl, fun last => ?_⟩
  have hn : (s.appendOperand c).n = 0 := by rw [State.appendOperand_n, last]; rfl
  have hset : s.appendOperand c = (s.appendOperand c).setN 0 := by rw [← hn]; rfl
  rw [readCycle_last _ _ _ hst last, hset]
  rfl

/-- Settles O22 (R125, R133). -/
theorem readWithoutOpenInstructionIsIgnored : Obligations.ReadWithoutOpenInstructionIsIgnored := by
  intro c s hst
  have hclosed : s.st ≠ .awaiting := by rcases hst with hst | hst <;> simp [hst]
  rw [exec_read, readCycle_closed _ _ _ hclosed]
  rfl

/-- Settles O23 (R126, R130, R134). -/
theorem writeIsIgnoredInEveryState : Obligations.WriteIsIgnoredInEveryState := exec_write

/-- Settles O24: nothing is open, so all that is left is the exit of the mode (R127, R135). -/
theorem ambiguousCycleWithoutOpenInstruction : Obligations.AmbiguousCycleWithoutOpenInstruction := by
  intro c sync rnw s i hrow hst
  rw [exec_ambiguousRow c s hrow, ambiguousCycle_closed _ _ _ hst]
  exact ⟨fun soft => congrArg _ (ambiguousExit_soft c s.clearOut soft),
    fun strict => congrArg _ (ambiguousExit_strict c s.clearOut strict)⟩

/-- Settles O25: the open instruction is closed short, then the exit of the mode follows (R131). -/
theorem ambiguousCycleTruncatesTheOpenInstruction : Obligations.AmbiguousCycleTruncatesTheOpenInstruction := by
  intro c sync rnw s i hrow hst
  rw [exec_ambiguousRow c s hrow, ambiguousCycle_open _ _ _ hst]
  exact ⟨fun soft => congrArg _ (ambiguousExit_soft c _ soft), fun strict => congrArg _ (ambiguousExit_strict c _ strict)⟩

/-- Settles O28, from the flags and the operand bytes of a closed record (R122). -/
theorem closedRecordFields : Obligations.ClosedRecordFields := by
  intro P d s _
  refine ⟨rfl, ?_⟩
  rw [completeRecord, closedKind_eq, closedErr_eq, recB0_eq, recB1_eq]
  rfl

/-- Settles O29: an open instruction has more than one byte, and the unknown marker comes with length 1 (R123, R73). -/
theorem truncatedRecordFields : Obligations.TruncatedRecordFields := by
  rintro P d why s rfl
  refine ⟨rfl, by rw [truncatedRecord, recB0_eq], fun hmodes hinv isOpen hmark => ?_⟩
  have hlen : 1 < (byteLength P (openDescriptor P s).mode).toNat := byteLength_gt_one_of_open hinv isOpen
  rw [openDescriptor, byteLength_lookup_unknown hmodes hmark] at hlen
  exact absurd hlen (by decide)

end Sys2Proof.Machine

/-! Proofs about reset and the configuration (spec/70_reset_and_hazards.md): `exec` as one equation over the rows, what the
events leave of `Faulted`, and which of them write the configuration registers. -/

namespace Sys2Proof.Machine

section Configuration

/-! ### The configuration registers under each operation (R17, R180) -/

variable (P : Params) (d : Descriptor) (c : Cycle) (s : State)

/-- The two configuration registers, which hold the pins of the last reset (R17). -/
def State.config (s : State) : BitVec 1 × BitVec 1 := (s.cfgVariant, s.cfgStrict)

theorem config_start : (start P d c s).config = s.config := by
  by_cases hlen : byteLength P d.mode = 1
  · rw [start_one _ _ _ _ hlen]; rfl
  · rw [start_more _ _ _ _ hlen]; rfl

theorem config_fetchWith : (fetchWith P d c s).config = s.config := by
  by_cases hst : s.st = .faulted
  · rw [fetchWith_faulted _ _ _ _ hst]; rfl
  · rw [fetchWith_live _ _ _ _ hst, config_start]; rfl

theorem config_readCycle : (readCycle P c s).config = s.config := by
  by_cases isOpen : s.st = .awaiting
  · by_cases last : s.n = 1
    · rw [readCycle_last _ _ _ isOpen last]; rfl
    · rw [readCycle_more _ _ _ isOpen last]; rfl
  · rw [readCycle_closed _ _ _ isOpen]; rfl

theorem config_ambiguousExit : (ambiguousExit c s).config = s.config := by
  rcases bit_cases s.cfgStrict with soft | strict
  · rw [ambiguousExit_soft _ _ soft]; rfl
  · rw [ambiguousExit_strict _ _ strict]; rfl

theorem config_ambiguousCycle : (ambiguousCycle P c s).config = s.config := by
  by_cases hst : s.st = .faulted
  · rw [ambiguousCycle_faulted _ _ _ hst]; rfl
  · rw [ambiguousCycle_live _ _ _ hst, config_ambiguousExit]; rfl

theorem config_endOfStream : (endOfStream P s).config = s.config := by
  rcases stTag_cases s.st with hst | hst | hst | hst
  · rw [endOfStream_idle _ _ hst]; rfl
  · rw [endOfStream_open _ _ hst]; rfl
  · rw [endOfStream_resyncing _ _ hst]; rfl
  · rw [endOfStream_faulted _ _ hst]; rfl

end Configuration

section Rows

/-! ### `exec` by rows: 215 constructors, nine kinds of row -/

/-- The next state of a row: an event of level E, or a target opcode on its fetch cycle. -/
def rowStep (s : State) : View → State
  | .fetch c => fetchCycle blockParams c s
  | .read c => readCycle blockParams c s
  | .write _ => s.clearOut
  | .ambigInconsistent c | .ambigSync _ _ c | .ambigRnw _ _ c => ambiguousCycle blockParams c s
  | .eos => endOfStream blockParams s
  | .reset v strict => resetBlock blockParams v strict s
  | .target row f => targetFetch row f s

/-- Each arm of `exec` carries the row data that `Instr.view` gives the constructor, and always answers a next state (R120). -/
theorem exec_eq_rowStep (i : Instr) (s : State) : exec i s = .next (rowStep s i.view) := by
  cases i <;> rfl

theorem exec_reset (v strict : BitVec 1) (s : State) :
    exec (.reset v strict) s = .next (s.clearOut.resetRegs blockParams v strict) := rfl

/-- RESET is the one constructor of its row. -/
theorem view_ne_reset {i : Instr} (h : ∀ v strict, i ≠ .reset v strict) (v strict : BitVec 1) :
    i.view ≠ .reset v strict := by
  cases i with
  | reset v' strict' => exact absurd rfl (h v' strict')
  | _ => exact nofun

variable {r : View} (h : ∀ v strict, r ≠ .reset v strict) (s : State)
include h

/-- R137, R165: in `Faulted` every row but RESET is consumed with no effect. -/
theorem rowStep_faulted (hst : s.st = .faulted) : rowStep s r = s.clearOut := by
  cases r with
  | fetch c => exact fetchWith_faulted _ _ _ _ hst
  | read c => exact readCycle_closed _ c s (by simp [hst])
  | write c => rfl
  | ambigInconsistent c => exact ambiguousCycle_faulted _ _ _ hst
  | ambigSync sync rnw c => exact ambiguousCycle_faulted _ _ _ hst
  | ambigRnw sync rnw c => exact ambiguousCycle_faulted _ _ _ hst
  | eos => exact endOfStream_faulted _ _ hst
  | reset v strict => exact absurd rfl (h v strict)
  | target row f => exact fetchWith_faulted _ _ _ _ hst

/-- R180: no row but RESET writes the configuration. -/
theorem config_rowStep : (rowStep s r).config = s.config := by
  cases r with
  | fetch c => exact config_fetchWith _ _ _ _
  | read c => exact config_readCycle _ _ _
  | write c => rfl
  | ambigInconsistent c => exact config_ambiguousCycle _ _ _
  | ambigSync sync rnw c => exact config_ambiguousCycle _ _ _
  | ambigRnw sync rnw c => exact config_ambiguousCycle _ _ _
  | eos => exact config_endOfStream _ _
  | reset v strict => exact absurd rfl (h v strict)
  | target row f => exact config_fetchWith _ _ _ _

end Rows

/-- Settles O2: the registers RESET writes (R180), and, of every other row, that it leaves `Faulted` and the configuration
(R165). -/
theorem resetEventLeavesIdleAndLatchesPins : Obligations.ResetEventLeavesIdleAndLatchesPins := by
  refine ⟨fun v strict s => ⟨_, exec_reset v strict s, rfl, rfl, rfl, rfl, rfl, rfl, rfl, rfl, rfl⟩, ?_⟩
  intro i s t hne hnext
  have hrow : ∀ v strict, i.view ≠ .reset v strict := view_ne_reset hne
  obtain rfl : rowStep s i.view = t := by simpa [exec_eq_rowStep] using hnext
  obtain ⟨hvariant, hstrict⟩ := Prod.ext_iff.mp (config_rowStep hrow s)
  exact ⟨fun hst => (congrArg State.st (rowStep_faulted hrow s hst)).trans hst, hvariant, hstrict⟩

end Sys2Proof.Machine

/-! Proofs about the raw cycle word (spec/30_encoding.md): the rows of R63 by the two line codes, read in both directions, and
the kind the classifier gives each row. -/

namespace Sys2Proof.Machine

section RawWords

variable (ts : Timestamp) (w : RawWord)

/-- R46: the four fields are all of the word. -/
theorem packRaw_fields : packRaw (rawAddr w) (rawData w) (rawSync w) (rawRnw w) = w := by
  have hdata : rawAddr w ++ rawData w = w.extractLsb' 4 24 := BitVec.extractLsb'_append_extractLsb'_eq_extractLsb' rfl
  have hsync : w.extractLsb' 4 24 ++ rawSync w = w.extractLsb' 2 26 := BitVec.extractLsb'_append_extractLsb'_eq_extractLsb' rfl
  have hrnw : w.extractLsb' 2 26 ++ rawRnw w = w.extractLsb' 0 28 := BitVec.extractLsb'_append_extractLsb'_eq_extractLsb' rfl
  rw [packRaw, hdata, hsync, hrnw, BitVec.extractLsb'_eq_self]

/-- The control bits that the rows of R63 match are the two line codes. -/
theorem controlBits_eq : w.extractLsb' 0 4 = rawSync w ++ rawRnw w :=
  (BitVec.extractLsb'_append_extractLsb'_eq_extractLsb' (start₁ := 0) (len₁ := 2) (len₂ := 2) rfl).symm

/-! ### Which line codes each row of R63 matches -/

theorem rowFetch_hits : ∀ s r : BitVec 2, rowFetch.hits (s ++ r) = true ↔ s = codeH ∧ r = codeH := by decide

theorem rowRead_hits : ∀ s r : BitVec 2, rowRead.hits (s ++ r) = true ↔ s = codeL ∧ r = codeH := by decide

theorem rowWrite_hits : ∀ s r : BitVec 2, rowWrite.hits (s ++ r) = true ↔ s = codeL ∧ r = codeL := by decide

theorem rowAmbigInconsistent_hits :
    ∀ s r : BitVec 2, rowAmbigInconsistent.hits (s ++ r) = true ↔ s = codeH ∧ r = codeL := by decide

theorem rowAmbigSync_hits : ∀ s r : BitVec 2, rowAmbigSync.hits (s ++ r) = true ↔ s.getLsbD 1 = true := by decide

/-- A line code is one of the two clean ones or indeterminate (R47) -/
theorem lineCode_cases : ∀ code : BitVec 2, code = codeL ∨ code = codeH ∨ code.getLsbD 1 = true := by decide

/-- ... and an indeterminate one is neither of the two. -/
theorem not_clean_of_indet : ∀ {code : BitVec 2}, code.getLsbD 1 = true → code ≠ codeL ∧ code ≠ codeH := by decide

/-- The rows of R63 over the two line codes of a raw cycle `c`: what each pair reads as. -/
inductive RawReading (c : Cycle) : BitVec 2 → BitVec 2 → Instr → Prop where
  | fetch : RawReading c codeH codeH (.fetch c)
  | read : RawReading c codeL codeH (.read c)
  | write : RawReading c codeL codeL (.write c)
  | ambigInconsistent : RawReading c codeH codeL (.ambigInconsistent c)
  | ambigSync (s r : BitVec 2) (indet : s.getLsbD 1 = true) : RawReading c s r (.ambigSync s r c)
  | ambigRnw (s r : BitVec 2) (clean : s.getLsbD 1 = false) (indet : r.getLsbD 1 = true) :
      RawReading c s r (.ambigRnw s r c)

/-- R63: the rows cover all sixteen pairs of line codes. -/
theorem exists_rawReading (c : Cycle) (s r : BitVec 2) : ∃ i, RawReading c s r i := by
  rcases lineCode_cases s with rfl | rfl | hs
  · rcases lineCode_cases r with rfl | rfl | hr
    · exact ⟨_, .write⟩
    · exact ⟨_, .read⟩
    · exact ⟨_, .ambigRnw _ _ rfl hr⟩
  · rcases lineCode_cases r with rfl | rfl | hr
    · exact ⟨_, .ambigInconsistent⟩
    · exact ⟨_, .fetch⟩
    · exact ⟨_, .ambigRnw _ _ rfl hr⟩
  · exact ⟨_, .ambigSync _ _ hs⟩

/-- The decoder answers the reading of the word's line codes: each row's mask matches those codes and no row before it does. -/
theorem decodeRaw_of_reading {i : Instr} (h : RawReading (rawCycle ts w) (rawSync w) (rawRnw w) i) : decodeRaw ts w = i := by
  simp only [decodeRaw, controlBits_eq, rowFetch_hits, rowRead_hits, rowWrite_hits, rowAmbigInconsistent_hits,
    rowAmbigSync_hits]
  generalize rawCycle ts w = c at h ⊢
  generalize rawSync w = s at h ⊢
  generalize rawRnw w = r at h ⊢
  cases h with
  | fetch => rfl
  | read => rfl
  | write => rfl
  | ambigInconsistent => rfl
  | ambigSync _ _ indet =>
    obtain ⟨hL, hH⟩ := not_clean_of_indet indet
    simp only [hL, hH, false_and, if_false, if_pos indet]
  | ambigRnw _ _ clean indet =>
    obtain ⟨hL, hH⟩ := not_clean_of_indet indet
    simp only [hL, hH, and_false, if_false, clean, Bool.false_eq_true]

theorem decodeRaw_reading : RawReading (rawCycle ts w) (rawSync w) (rawRnw w) (decodeRaw ts w) := by
  obtain ⟨i, hread⟩ := exists_rawReading (rawCycle ts w) (rawSync w) (rawRnw w)
  rw [decodeRaw_of_reading ts w hread]
  exact hread

end RawWords

section Readings

variable {c : Cycle} {s r : BitVec 2} {i : Instr}

theorem RawReading.encode_eq (h : RawReading c s r i) : encode i = rawSample c s r := by
  cases h <;> rfl

theorem wf_ambigSync (s r : BitVec 2) (c : Cycle) : (Instr.ambigSync s r c).wf = s.getLsbD 1 := Bool.and_true _

theorem wf_ambigRnw (s r : BitVec 2) (c : Cycle) : (Instr.ambigRnw s r c).wf = (!s.getLsbD 1 && r.getLsbD 1) :=
  Bool.and_true _

theorem RawReading.wf_isEvent (h : RawReading c s r i) : i.wf = true ∧ i.isEvent = true := by
  cases h with
  | ambigSync _ _ indet => exact ⟨(wf_ambigSync _ _ _).trans indet, rfl⟩
  | ambigRnw _ _ clean indet => exact ⟨by rw [wf_ambigRnw, clean, indet]; rfl, rfl⟩
  | _ => exact ⟨rfl, rfl⟩

/-- The sample of a raw cycle decodes to the reading of its line codes, and nothing stays presented. -/
theorem decode_rawSample (h : RawReading c s r i) : decode (rawSample c s r) = .ok (i, none) := by
  have hread : RawReading (rawCycle c.ts (packRaw c.addr c.data s r)) (rawSync (packRaw c.addr c.data s r))
      (rawRnw (packRaw c.addr c.data s r)) i := by
    rw [rawCycle_packRaw, rawSync_packRaw, rawRnw_packRaw]; exact h
  rw [← decodeRaw_of_reading _ _ hread]
  rfl

/-- A well-formed level E instruction is a reading of its own line codes, or one of the two ports (R63). -/
theorem event_cases (hevent : i.isEvent = true) (hwf : i.wf = true) :
    (∃ c s r, RawReading c s r i) ∨ i = .eos ∨ ∃ v strict, i = .reset v strict := by
  cases i with
  | fetch c => exact .inl ⟨c, _, _, .fetch⟩
  | read c => exact .inl ⟨c, _, _, .read⟩
  | write c => exact .inl ⟨c, _, _, .write⟩
  | ambigInconsistent c => exact .inl ⟨c, _, _, .ambigInconsistent⟩
  | ambigSync s r c => exact .inl ⟨c, s, r, .ambigSync s r ((wf_ambigSync s r c).symm.trans hwf)⟩
  | ambigRnw s r c =>
    rw [wf_ambigRnw, Bool.and_eq_true, Bool.not_eq_true'] at hwf
    obtain ⟨clean, indet⟩ := hwf
    exact .inl ⟨c, s, r, .ambigRnw s r clean indet⟩
  | eos => exact .inr (.inl rfl)
  | reset v strict => exact .inr (.inr ⟨v, strict, rfl⟩)
  | _ => exact absurd hevent Bool.false_ne_true

end Readings

/-- Settles O6: a raw cycle is the reading of its line codes; the two ports carry no word. -/
theorem decodeOfEncodedEventIsTheEvent : Obligations.DecodeOfEncodedEventIsTheEvent := by
  intro i hevent hwf
  rcases event_cases hevent hwf with ⟨c, s, r, hread⟩ | rfl | ⟨v, strict, rfl⟩
  · rw [hread.encode_eq, decode_rawSample hread]
  · rfl
  · rfl

/-- Settles O8: the reading is encoded by its own cycle and codes, which are all of the word (R46). -/
theorem encodeOfDecodedRawCycleIsTheWord : Obligations.EncodeOfDecodedRawCycleIsTheWord := by
  intro ts w
  rw [(decodeRaw_reading ts w).encode_eq]
  simp only [rawSample, rawCycle, packRaw_fields]

section Kinds

/-! ### The classifier on the rows (R106, R107 to R111) -/

theorem classifyKind_indet_left (l : L3) : classifyKind .indet l = .ambiguous := by
  cases l <;> rfl

theorem classifyKind_indet_right (l : L3) : classifyKind l .indet = .ambiguous := by
  cases l <;> rfl

theorem ofCode_of_indet {code : BitVec 2} (h : code.getLsbD 1 = true) : L3.ofCode code = .indet := if_pos h

variable {s r : BitVec 2}

theorem kind_of_indet_sync (h : s.getLsbD 1 = true) : classifyKind (L3.ofCode s) (L3.ofCode r) = .ambiguous := by
  rw [ofCode_of_indet h, classifyKind_indet_left]

theorem kind_of_indet_rnw (h : r.getLsbD 1 = true) : classifyKind (L3.ofCode s) (L3.ofCode r) = .ambiguous := by
  rw [ofCode_of_indet h, classifyKind_indet_right]

end Kinds

/-- Settles O5: row by row, the kind is that of the row's line codes (R107 to R111). -/
theorem decodedEventAgreesWithClassifier : Obligations.DecodedEventAgreesWithClassifier := by
  intro ts w
  have hkind : (classify ts w).kind = classifyKind (L3.ofCode (rawSync w)) (L3.ofCode (rawRnw w)) := rfl
  rw [hkind, classify_cycle]
  have hread := decodeRaw_reading ts w
  generalize decodeRaw ts w = i at hread ⊢
  generalize rawCycle ts w = c at hread ⊢
  generalize rawSync w = s at hread ⊢
  generalize rawRnw w = r at hread ⊢
  cases hread with
  | ambigSync _ _ indet => exact ⟨kind_of_indet_sync indet, rfl⟩
  | ambigRnw _ _ _ indet => exact ⟨kind_of_indet_rnw indet, rfl⟩
  | _ => exact ⟨rfl, rfl⟩

/-- Settles O4: each of the sixteen codes. -/
theorem rawPatternsPartitionTheCodes : Obligations.RawPatternsPartitionTheCodes := by
  unfold Obligations.RawPatternsPartitionTheCodes
  decide

end Sys2Proof.Machine

/-! Proofs about the rows of the target opcodes (spec/opcode_table.json) against the default table (R58, R59), the events of a
port sample (R63, R167), and the packed words (R52 to R57). -/

namespace Sys2Proof.Machine

section TargetRows

/-- Which words the row of an opcode has (R58, R59): one variant's for the 27 opcodes that differ, else both. -/
def rowVariants (v : BitVec 1) (op : Byte) : RowVariant :=
  if baseUnknown.contains op then (if v = 0 then .baseOnly else .extendedOnly) else .both

/-- The row that R58 and R59 give an opcode under a variant. -/
def tableRow (v : BitVec 1) (op : Byte) : TargetRow := ⟨op, rowVariants v op, lookup blockParams v op⟩

theorem tableRow_admits (v : BitVec 1) (op : Byte) : (tableRow v op).variants.admits v = true := by
  rw [tableRow, rowVariants]
  by_cases hop : baseUnknown.contains op = true
  · rw [if_pos hop]
    rcases bit_cases v with rfl | rfl <;> rfl
  · rw [if_neg hop]
    rfl

/-- The opcode with these two hexadecimal digits. -/
def opcodeAt (hi lo : Nat) : Byte := BitVec.ofNat 8 (16 * hi + lo)

/-- The rows of opcode_table.json whose opcodes start with one digit are those of the default table, one by one. -/
theorem decodeTarget_digitRow {hi : Nat} (hhi : hi < 16) (v : BitVec 1) (f : OpFetch) :
    (List.range 16).map (fun lo => ((decodeTarget v (opcodeAt hi lo) f).view, (decodeTarget v (opcodeAt hi lo) f).opcodeOk)) =
      (List.range 16).map (fun lo => (View.target (tableRow v (opcodeAt hi lo)) f, true)) := by
  rcases bit_cases v with rfl | rfl
  · interval_cases hi <;> rfl
  · interval_cases hi <;> rfl

/-- R58, R59: each opcode decodes, under each variant, to its row, a well-formed one. -/
theorem decodeTarget_row (v : BitVec 1) (op : Byte) (f : OpFetch) :
    (decodeTarget v op f).view = .target (tableRow v op) f ∧ (decodeTarget v op f).opcodeOk = true := by
  have hop : op = opcodeAt (op.toNat / 16) (op.toNat % 16) := by
    rw [opcodeAt, Nat.div_add_mod, BitVec.ofNat_toNat, BitVec.setWidth_eq]
  have hrow := List.map_inj_left.mp (decodeTarget_digitRow (hi := op.toNat / 16) (by omega) v f) (op.toNat % 16)
    (List.mem_range.mpr (by omega))
  rw [← hop] at hrow
  exact Prod.ext_iff.mp hrow

/-- The 77 rows that `Instr.unknown` stands for. -/
theorem decodeTarget_unknown (v : BitVec 1) (f : OpFetch) {op : Byte} (hop : unknownOpcodes.contains op = true) :
    decodeTarget v op f = .unknown op f := by
  have hrows : unknownOpcodes.map (fun op => decodeTarget v op f) = unknownOpcodes.map (fun op => .unknown op f) := by
    rcases bit_cases v with rfl | rfl <;> rfl
  exact List.map_inj_left.mp hrows op (List.contains_iff_mem.mp hop)

/-- The instruction decoded again from its row's opcode, where it has a word under the variant. -/
def redecoded (v : BitVec 1) (i : Instr) : Instr :=
  match i.view with
  | .target row f => bif row.variants.admits v then decodeTarget v row.opcode f else i
  | _ => i

/-- Constructor by constructor, under each variant. -/
theorem redecoded_eq {i : Instr} (hop : i.opcodeOk = true) (v : BitVec 1) : redecoded v i = i := by
  cases i with
  | unknown op f => exact decodeTarget_unknown v f hop
  | _ => rcases bit_cases v with rfl | rfl <;> rfl

/-- A well-formed target opcode is the one its opcode byte decodes to. -/
theorem decodeTarget_of_view {i : Instr} {row : TargetRow} {f : OpFetch} {v : BitVec 1} (hop : i.opcodeOk = true)
    (hview : i.view = .target row f) (hadmits : row.variants.admits v = true) : decodeTarget v row.opcode f = i := by
  have h := redecoded_eq hop v
  simpa only [redecoded, hview, hadmits, cond_true] using h

/-- The row of a well-formed target opcode is the one R58 and R59 give its byte. -/
theorem row_of_view {i : Instr} {row : TargetRow} {f : OpFetch} {v : BitVec 1} (hop : i.opcodeOk = true)
    (hview : i.view = .target row f) (hadmits : row.variants.admits v = true) : row = tableRow v row.opcode := by
  have hdecoded := (decodeTarget_row v row.opcode f).1
  rw [decodeTarget_of_view hop hview hadmits, hview] at hdecoded
  exact (View.target.inj hdecoded).1

theorem opcodeOk_of_wf {i : Instr} (hwf : i.wf = true) : i.opcodeOk = true := (Bool.and_eq_true_iff.mp hwf).2

theorem target_of_not_isEvent {i : Instr} (h : i.isEvent = false) : ∃ row f, i.view = .target row f := by
  rw [Instr.isEvent] at h
  cases hview : i.view with
  | target row f => exact ⟨row, f, rfl⟩
  | _ => rw [hview] at h; exact absurd h.symm Bool.false_ne_true

/-- Level T decoding of an opcode fetch reads the target opcode it carries. -/
theorem decodeOpcode_fetch {v : BitVec 1} {p : PortSample} {c : Cycle} {left : Option PortSample}
    (h : decode p = .ok (.fetch c, left)) : decodeOpcode v p = .ok (decodeTarget v c.data ⟨c.ts, c.addr⟩) := by
  rw [decodeOpcode, h]

/-- ... and it rejects every other event. -/
theorem exists_fetch_of_decodeOpcode {v : BitVec 1} {p : PortSample} {i : Instr} (h : decodeOpcode v p = .ok i) :
    ∃ c left, decode p = .ok (.fetch c, left) ∧ i = decodeTarget v c.data ⟨c.ts, c.addr⟩ := by
  unfold decodeOpcode at h
  split at h
  case h_1 c left hdecode => exact ⟨c, left, hdecode, (Except.ok.inj h).symm⟩
  case h_2 => exact nomatch h
  case h_3 => exact nomatch h

end TargetRows

/-- Settles O7: the opcode byte of the row's fetch cycle decodes to the row again. -/
theorem decodeOfEncodedOpcodeIsTheOpcode : Obligations.DecodeOfEncodedOpcodeIsTheOpcode := by
  intro i v htarget hwf hvariant
  obtain ⟨row, f, hview⟩ := target_of_not_isEvent htarget
  rw [Instr.inVariant, hview] at hvariant
  have hadmits : row.variants.admits v = true := hvariant
  have hencode : encode i = rawSample (f.cycle row.opcode) codeH codeH := by rw [encode, hview]
  rw [hencode, decodeOpcode_fetch (decode_rawSample .fetch)]
  exact congrArg Except.ok (decodeTarget_of_view (opcodeOk_of_wf hwf) hview hadmits)

/-- Settles O12: the decoded row is the table's, which the mux answers (R58, R59). -/
theorem opcodeRowsAgreeWithTheDefaultTable : Obligations.OpcodeRowsAgreeWithTheDefaultTable :=
  fun v op f => ⟨tableRow v op, (decodeTarget_row v op f).1, rfl, tableRow_admits v op, rfl⟩

section Samples

/-! ### The events of a port sample (R63, R167) -/

variable {p : PortSample}

theorem decode_of_rst (hrst : p.rst = true) : decode p = .ok (.reset p.cfgVariant p.cfgStrict, none) := if_pos hrst

theorem decode_of_valid (hrst : p.rst = false) (hvalid : p.inValid = true) :
    decode p = .ok (decodeRaw p.inTs p.inRaw, if p.inEos then some { p with inValid := false } else none) := by
  simp only [decode, hrst, hvalid, if_true, Bool.false_eq_true, if_false]

theorem decode_of_eos (hrst : p.rst = false) (hvalid : p.inValid = false) (heos : p.inEos = true) :
    decode p = .ok (.eos, none) := by
  simp only [decode, hrst, hvalid, heos, if_true, Bool.false_eq_true, if_false]

theorem decode_of_nothing (hrst : p.rst = false) (hvalid : p.inValid = false) (heos : p.inEos = false) :
    decode p = .error .nothingPresented := by
  simp only [decode, hrst, hvalid, heos, Bool.false_eq_true, if_false]

/-- What a port sample presents, in the order of R63 and R167. -/
theorem sample_cases (p : PortSample) :
    p.rst = true ∨ (p.rst = false ∧ p.inValid = true) ∨ (p.rst = false ∧ p.inValid = false ∧ p.inEos = true) ∨
      (p.rst = false ∧ p.inValid = false ∧ p.inEos = false) := by
  cases p.rst <;> cases p.inValid <;> cases p.inEos <;> simp

/-- A decoded level E instruction is well-formed. -/
theorem wf_isEvent_of_decode {i : Instr} {left : Option PortSample} (h : decode p = .ok (i, left)) :
    i.wf = true ∧ i.isEvent = true := by
  rcases sample_cases p with hrst | ⟨hrst, hvalid⟩ | ⟨hrst, hvalid, heos⟩ | ⟨hrst, hvalid, heos⟩
  · rw [decode_of_rst hrst] at h
    obtain ⟨rfl, _⟩ := Prod.mk.inj (Except.ok.inj h)
    exact ⟨rfl, rfl⟩
  · rw [decode_of_valid hrst hvalid] at h
    obtain ⟨rfl, _⟩ := Prod.mk.inj (Except.ok.inj h)
    exact (decodeRaw_reading p.inTs p.inRaw).wf_isEvent
  · rw [decode_of_eos hrst hvalid heos] at h
    obtain ⟨rfl, _⟩ := Prod.mk.inj (Except.ok.inj h)
    exact ⟨rfl, rfl⟩
  · rw [decode_of_nothing hrst hvalid heos] at h
    exact nomatch h

/-- A decoded target opcode is well-formed and has a word under the session's variant. -/
theorem wf_inVariant_decodeTarget (v : BitVec 1) (op : Byte) (f : OpFetch) :
    (decodeTarget v op f).wf = true ∧ (decodeTarget v op f).isEvent = false ∧ (decodeTarget v op f).inVariant v = true := by
  obtain ⟨hview, hop⟩ := decodeTarget_row v op f
  rw [Instr.wf, Instr.isEvent, Instr.inVariant, hview, hop]
  exact ⟨rfl, rfl, tableRow_admits v op⟩

end Samples

/-- Settles O9: the readings of the raw words are well-formed, and so are the rows of the opcodes. -/
theorem decodedInstructionsAreWellFormed : Obligations.DecodedInstructionsAreWellFormed := by
  refine ⟨fun _ _ _ => wf_isEvent_of_decode, fun v p i h => ?_⟩
  obtain ⟨c, _, _, rfl⟩ := exists_fetch_of_decodeOpcode h
  exact wf_inVariant_decodeTarget v c.data _

/-- Settles O10: the words of R46, R61 and R74 to R77, each decoded. -/
theorem wordsOfTheSpecDecode : Obligations.WordsOfTheSpecDecode :=
  ⟨rfl, rfl, rfl, rfl, rfl, rfl, fun _ => ⟨rfl, rfl, rfl, rfl⟩⟩

section PackedWords

/-! ### Codes and packed words (R52 to R56) -/

/-- R53: a mode is found again by its code. -/
theorem ofCode_code (m : AddrMode) : AddrMode.ofCode m.code = .ok m := by
  cases m <;> rfl

theorem ofCode_reserved : AddrMode.ofCode 15 = .error .reservedModeCode := rfl

theorem ofLen_len (k : Format) : Format.ofLen k.len = .ok k := by
  cases k <;> rfl

/-- R52: the mode's code is the low digit of a descriptor word, the mnemonic's word the rest of it. -/
theorem descriptorWord_mode (d : Descriptor) : d.word.extractLsb' 0 4 = d.mode.code := BitVec.extractLsb'_append_eq_right

theorem descriptorWord_mnemonic (d : Descriptor) : d.word.extractLsb' 4 24 = d.mn.word := BitVec.extractLsb'_append_eq_left

/-- R52: the three characters of a mnemonic's word, first character in the high byte. -/
theorem mnemonicWord_c1 (m : Mnemonic) : m.word.extractLsb' 16 8 = m.c1 := by
  rw [Mnemonic.word, BitVec.extractLsb'_append_eq_of_le (by decide)]
  exact BitVec.extractLsb'_append_eq_left

theorem mnemonicWord_c2 (m : Mnemonic) : m.word.extractLsb' 8 8 = m.c2 := by
  rw [Mnemonic.word, BitVec.extractLsb'_append_eq_of_le (by decide)]
  exact BitVec.extractLsb'_append_eq_right

theorem mnemonicWord_c3 (m : Mnemonic) : m.word.extractLsb' 0 8 = m.c3 := BitVec.extractLsb'_append_eq_right

theorem mnemonic_ofWord_word (m : Mnemonic) : Mnemonic.ofWord m.word = m := by
  rw [Mnemonic.ofWord, mnemonicWord_c1, mnemonicWord_c2, mnemonicWord_c3]

/-- A field of a descriptor word above the mode's code is that field of the mnemonic's word. -/
theorem descriptorWord_above_mode (d : Descriptor) {start len : Nat} (h : 4 ≤ start) :
    d.word.extractLsb' start len = d.mn.word.extractLsb' (start - 4) len :=
  BitVec.extractLsb'_append_eq_of_le h

theorem descriptorWord_fields (d : Descriptor) :
    d.word.extractLsb' 20 8 = d.mn.c1 ∧ d.word.extractLsb' 12 8 = d.mn.c2 ∧ d.word.extractLsb' 4 8 = d.mn.c3 ∧
      d.word.extractLsb' 0 4 = d.mode.code :=
  ⟨(descriptorWord_above_mode d (by decide)).trans (mnemonicWord_c1 d.mn),
    (descriptorWord_above_mode d (by decide)).trans (mnemonicWord_c2 d.mn),
    (descriptorWord_above_mode d (by decide)).trans (mnemonicWord_c3 d.mn), descriptorWord_mode d⟩

theorem descriptor_ofWord_word (d : Descriptor) : Descriptor.ofWord d.word = .ok d := by
  simp only [Descriptor.ofWord, descriptorWord_mode, ofCode_code, descriptorWord_mnemonic, mnemonic_ofWord_word]

/-- R54: the length is the high part of a ModeEncoding word, the template's code the low one. -/
theorem modeEncodingWord_fields (e : ModeEncoding) :
    e.word.extractLsb' 4 2 = e.format.len ∧ e.word.extractLsb' 0 4 = e.tmpl.code :=
  ⟨BitVec.extractLsb'_append_eq_left, BitVec.extractLsb'_append_eq_right⟩

theorem modeEncoding_ofWord_word (e : ModeEncoding) : ModeEncoding.ofWord e.word = .ok e := by
  obtain ⟨hlen, htmpl⟩ := modeEncodingWord_fields e
  simp only [ModeEncoding.ofWord, hlen, htmpl, ofLen_len, ofCode_code]

/-- U4: a descriptor word with mode code 15 is refused. -/
theorem descriptor_ofWord_reserved {word : BitVec 28} (h : word.extractLsb' 0 4 = 15) :
    Descriptor.ofWord word = .error .reservedModeCode := by
  simp only [Descriptor.ofWord, h, ofCode_reserved]

/-- U4: a ModeEncoding word with `len` 0 is refused, whatever its template. -/
theorem modeEncoding_ofWord_reserved {word : BitVec 6} (h : word.extractLsb' 4 2 = 0) :
    ModeEncoding.ofWord word = .error .reservedLenCode := by
  have hlen : Format.ofLen 0 = .error .reservedLenCode := rfl
  simp only [ModeEncoding.ofWord, h, hlen]

theorem modeRead_code (P : Params) (m : AddrMode) : modeRead P m.code = .ok (encodingFor P m).word := by
  simp only [modeRead, ofCode_code]

theorem modeRead_reserved (P : Params) : modeRead P 15 = .error .reservedModeCode := rfl

theorem recKind_ofCode_code (k : RecKind) : RecKind.ofCode k.code = .ok k := by
  cases k <;> rfl

theorem reason_ofCode_code (r : Reason) : Reason.ofCode r.code = .ok r := by
  cases r <;> rfl

theorem recErr_ofCode_code (e : RecErr) : RecErr.ofCode e.code = .ok e := by
  cases e <;> rfl

end PackedWords

/-- Settles O11: the codes as listed, then each packed word read back field by field. -/
theorem packedWordsRoundTripAndRejectReserved : Obligations.PackedWordsRoundTripAndRejectReserved := by
  refine ⟨⟨rfl, rfl⟩, ⟨rfl, rfl, rfl⟩, ⟨rfl, rfl, rfl⟩, ⟨rfl, rfl, rfl⟩, ⟨rfl, rfl, rfl⟩, rfl, descriptorWord_fields,
    modeEncodingWord_fields, descriptor_ofWord_word, modeEncoding_ofWord_word, recKind_ofCode_code, reason_ofCode_code,
    recErr_ofCode_code, fun _ => descriptor_ofWord_reserved, fun _ => modeEncoding_ofWord_reserved,
    fun P => ⟨modeRead_reserved P, modeRead_code P⟩, rfl, rfl, rfl⟩

end Sys2Proof.Machine

/-! Proofs about the step (spec/43_reconstructor.md R120; spec/60_exceptions.md R167): an event has one effect, which neither
reads the output nor touches the input; and a step is the effect of the event its sample presents. -/

namespace Sys2Proof.Machine

section Effects

variable {P : Params} {s t : State} {e : Event}

/-- R137, R165: in `Faulted` every event but reset is consumed with no effect. -/
theorem eventStep_faulted (hst : s.st = .faulted) (hreset : e.isReset = false) : eventStep P s e = s.clearOut := by
  cases e with
  | reset v strict => exact nomatch hreset
  | eos => exact endOfStream_faulted P s hst
  | raw ts w =>
    cases hkind : (classify ts w).kind with
    | fetch => rw [eventStep_fetch _ _ _ _ hkind, fetchWith_faulted _ _ _ _ hst]
    | read => rw [eventStep_read _ _ _ _ hkind, readCycle_closed _ _ _ (by simp [hst])]
    | write => exact eventStep_write _ _ _ _ hkind
    | ambiguous => rw [eventStep_ambiguous _ _ _ _ hkind, ambiguousCycle_faulted _ _ _ hst]

theorem eventStep_hasKind_write (h : e.hasKind .write = true) : eventStep P s e = s.clearOut := by
  cases e with
  | raw ts w => exact eventStep_write _ _ _ _ (beq_iff_eq.mp h)
  | eos => exact nomatch h
  | reset v strict => exact nomatch h

/-- An event has one effect: what `Effect` relates is the next state that `eventStep` answers. -/
theorem Effect.eventStep_eq (h : Effect P s e t) : eventStep P s e = t := by
  cases h with
  | quiet _ notReset why =>
    rcases why with hst | hwrite | ⟨hread, hclosed⟩ | ⟨rfl, hst⟩
    · exact eventStep_faulted hst notReset
    · exact eventStep_hasKind_write hwrite
    · exact eventStep_read_or_write hclosed (.inl hread)
    · exact endOfStream_idle P s hst
  | fetchOne ts w kind live len => rw [eventStep_fetch _ _ _ _ kind, fetchWith_live _ _ _ _ live, start_one _ _ _ _ len]; rfl
  | fetchMore ts w kind live len => rw [eventStep_fetch _ _ _ _ kind, fetchWith_live _ _ _ _ live, start_more _ _ _ _ len]; rfl
  | operand ts w kind isOpen more => rw [eventStep_read _ _ _ _ kind, readCycle_more _ _ _ isOpen more]
  | lastOperand ts w kind isOpen last => rw [eventStep_read _ _ _ _ kind, readCycle_last _ _ _ isOpen last]
  | resync ts w kind live soft =>
    rw [eventStep_ambiguous _ _ _ _ kind, ambiguousCycle_live _ _ _ live]
    exact ambiguousExit_soft _ _ soft
  | hardError ts w kind live strict =>
    rw [eventStep_ambiguous _ _ _ _ kind, ambiguousCycle_live _ _ _ live]
    exact ambiguousExit_strict _ _ strict
  | flush isOpen => exact endOfStream_open P s isOpen
  | leaveResync resyncing => exact endOfStream_resyncing P s resyncing
  | reset v strict => rfl

/-- No event touches the input still to come (R120). -/
theorem Effect.inputs_eq (h : Effect P s e t) : t.inputs = s.inputs := by
  cases h <;> rfl

/-- No event reads the output or the input ports. -/
theorem Effect.setPorts (h : Effect P s e t) (o : List Record) (ps : List PortSample) :
    Effect P { s with out := o, inputs := ps } e { t with inputs := ps } := by
  cases h with
  | quiet _ notReset why => exact .quiet _ notReset why
  | fetchOne ts w kind live len => exact .fetchOne ts w kind live len
  | fetchMore ts w kind live len => exact .fetchMore ts w kind live len
  | operand ts w kind isOpen more => exact .operand ts w kind isOpen more
  | lastOperand ts w kind isOpen last => exact .lastOperand ts w kind isOpen last
  | resync ts w kind live soft => exact .resync ts w kind live soft
  | hardError ts w kind live strict => exact .hardError ts w kind live strict
  | flush isOpen => exact .flush isOpen
  | leaveResync resyncing => exact .leaveResync resyncing
  | reset v strict => exact .reset v strict

theorem eventStep_setInputs (ps : List PortSample) :
    eventStep P { s with inputs := ps } e = { eventStep P s e with inputs := ps } :=
  ((eventStep_effect P s e).setPorts s.out ps).eventStep_eq

theorem eventStep_inputs : (eventStep P s e).inputs = s.inputs := (eventStep_effect P s e).inputs_eq

theorem eventStep_setOut (o : List Record) : eventStep P { s with out := o } e = eventStep P s e := by
  have h : eventStep P { s with out := o } e = { eventStep P s e with inputs := s.inputs } :=
    ((eventStep_effect P s e).setPorts o s.inputs).eventStep_eq
  rw [h, ← eventStep_inputs (P := P) (s := s) (e := e)]

end Effects

section Steps

/-- R63, R106: the row a raw word decodes to has the effect of the word's event. -/
theorem exec_decodeRaw (ts : Timestamp) (w : RawWord) (s : State) :
    exec (decodeRaw ts w) s = .next (eventStep blockParams s (.raw ts w)) := by
  have hevent : eventStep blockParams s (.raw ts w) =
      cycleStep blockParams ⟨rawCycle ts w, classifyKind (L3.ofCode (rawSync w)) (L3.ofCode (rawRnw w))⟩ s := rfl
  have hread := decodeRaw_reading ts w
  rw [hevent]
  generalize decodeRaw ts w = i at hread ⊢
  generalize rawCycle ts w = c at hread ⊢
  generalize rawSync w = s' at hread ⊢
  generalize rawRnw w = r at hread ⊢
  cases hread with
  | ambigSync _ _ indet => rw [kind_of_indet_sync indet]; rfl
  | ambigRnw _ _ _ indet => rw [kind_of_indet_rnw indet]; rfl
  | _ => rfl

theorem event_of_rst {p : PortSample} (hrst : p.rst = true) : p.event = some (.reset p.cfgVariant p.cfgStrict) := if_pos hrst

theorem event_of_valid {p : PortSample} (hrst : p.rst = false) (hvalid : p.inValid = true) :
    p.event = some (.raw p.inTs p.inRaw) := by
  simp only [PortSample.event, hrst, hvalid, Bool.false_eq_true, if_false, if_true]

theorem event_of_eos {p : PortSample} (hrst : p.rst = false) (hvalid : p.inValid = false) (heos : p.inEos = true) :
    p.event = some .eos := by
  simp only [PortSample.event, hrst, hvalid, heos, Bool.false_eq_true, if_false, if_true]

/-- R120, R167: a decoded sample is run as the event it presents, and leaves presented what the event does not take. -/
theorem exec_of_decode {p : PortSample} {i : Instr} {left : Option PortSample} (h : decode p = .ok (i, left)) :
    left.toList = p.left ∧ ∃ e, p.event = some e ∧ ∀ s, exec i s = .next (eventStep blockParams s e) := by
  rcases sample_cases p with hrst | ⟨hrst, hvalid⟩ | ⟨hrst, hvalid, heos⟩ | ⟨hrst, hvalid, heos⟩
  · obtain ⟨rfl, rfl⟩ := Prod.mk.inj (Except.ok.inj ((decode_of_rst hrst).symm.trans h))
    exact ⟨by simp [PortSample.left, hrst], _, event_of_rst hrst, exec_reset _ _⟩
  · obtain ⟨rfl, rfl⟩ := Prod.mk.inj (Except.ok.inj ((decode_of_valid hrst hvalid).symm.trans h))
    refine ⟨?_, _, event_of_valid hrst hvalid, exec_decodeRaw _ _⟩
    cases heos : p.inEos <;> simp [PortSample.left, hrst, hvalid, heos]
  · obtain ⟨rfl, rfl⟩ := Prod.mk.inj (Except.ok.inj ((decode_of_eos hrst hvalid heos).symm.trans h))
    exact ⟨by simp [PortSample.left, hvalid], _, event_of_eos hrst hvalid heos, fun _ => rfl⟩
  · exact nomatch (decode_of_nothing hrst hvalid heos).symm.trans h

/-- A sample that is refused presents nothing. -/
theorem event_of_decode_error {p : PortSample} {err : DecodeError} (h : decode p = .error err) : p.event = none := by
  rcases sample_cases p with hrst | ⟨hrst, hvalid⟩ | ⟨hrst, hvalid, heos⟩ | ⟨hrst, hvalid, heos⟩
  · exact nomatch (decode_of_rst hrst).symm.trans h
  · exact nomatch (decode_of_valid hrst hvalid).symm.trans h
  · exact nomatch (decode_of_eos hrst hvalid heos).symm.trans h
  · simp only [PortSample.event, hrst, hvalid, heos, Bool.false_eq_true, if_false]

variable {s : State} {p : PortSample} {rest : List PortSample}

theorem step_of_decode {i : Instr} {left : Option PortSample} (hin : s.inputs = p :: rest) (h : decode p = .ok (i, left)) :
    step s = exec i { s with inputs := left.toList ++ rest } := by
  simp only [step, hin, h]
  rfl

theorem step_of_decode_error {err : DecodeError} (hin : s.inputs = p :: rest) (h : decode p = .error err) :
    step s = .next { s with out := [], inputs := rest } := by
  simp only [step, hin, h]
  rfl

theorem step_of_no_input (hin : s.inputs = []) : step s = .next s.clearOut := by
  simp only [step, hin]

theorem stepWith_of_event {P : Params} {e : Event} (hin : s.inputs = p :: rest) (h : p.event = some e) :
    stepWith P s = { eventStep P s e with inputs := p.left ++ rest } := by
  simp only [stepWith, hin, h]

/-- R4, R30: the machine is the block at the default parameters. -/
theorem step_eq_stepWith (s : State) : step s = .next (stepWith blockParams s) := by
  cases hin : s.inputs with
  | nil => simp only [step_of_no_input hin, stepWith, hin]
  | cons p rest =>
    cases hdecode : decode p with
    | error err => simp only [step_of_decode_error hin hdecode, stepWith, hin, event_of_decode_error hdecode]
    | ok answer =>
      obtain ⟨hleft, e, hevent, hexec⟩ := exec_of_decode hdecode
      rw [step_of_decode hin hdecode, hexec, eventStep_setInputs, hleft, stepWith_of_event hin hevent]

/-- R141: the block's step keeps the invariant, for every choice of the parameters. -/
theorem stepWith_inv {P : Params} (h : s.Inv P) : (stepWith P s).Inv P := by
  unfold stepWith
  split
  case h_1 => exact h
  case h_2 p rest _ =>
    split
    case h_1 => exact h
    case h_2 e _ => exact everyEventKeepsTheInvariant P s e h

end Steps

/-- Settles O17: what the sample presents is run as its event (R120, R167), and the default parameters are the machine's. -/
theorem stepRefinesThePureFunction : Obligations.StepRefinesThePureFunction := by
  refine ⟨fun s p rest e hin hevent => ?_, step_eq_stepWith⟩
  rw [step_eq_stepWith, stepWith_of_event hin hevent]
  rfl

/-- Settles O47: the machine is the block at the default parameters, whose events keep the invariant (R141). -/
theorem everyStepKeepsTheInvariant : Obligations.EveryStepKeepsTheInvariant := by
  intro s t hinv hnext
  rw [step_eq_stepWith] at hnext
  obtain rfl : stepWith blockParams s = t := by simpa using hnext
  exact stepWith_inv hinv

/-- Settles O13: the step takes the sample and runs its instruction. -/
theorem stepRunsTheDecodedEvent : Obligations.StepRunsTheDecodedEvent := fun _ _ _ _ _ => step_of_decode

/-- Settles O15: with nothing presented only the output is cleared. -/
theorem stepWithNothingPresentedWaits : Obligations.StepWithNothingPresentedWaits :=
  ⟨fun _ => step_of_no_input, fun _ _ _ hin hrst hvalid heos => step_of_decode_error hin (decode_of_nothing hrst hvalid heos)⟩

/-- Settles O16: reset, then the raw cycle, then end-of-stream (R167). -/
theorem presentedEventsFollowTheirPriority : Obligations.PresentedEventsFollowTheirPriority := by
  refine ⟨fun p => decode_of_rst, fun p hrst hvalid heos => ⟨?_, decode_of_eos hrst rfl heos⟩⟩
  rw [decode_of_valid hrst hvalid, if_pos heos]

/-- Settles O18: without reset, no event of a sample carries the pins' levels (R187). -/
theorem configurationPinsAreReadAtResetOnly : Obligations.ConfigurationPinsAreReadAtResetOnly := by
  intro s p rest variant strict hrst honly
  have hdecode : decode { p with cfgVariant := variant, cfgStrict := strict } = decode p := by
    cases hvalid : p.inValid with
    | false => simp only [decode, hrst, hvalid, Bool.false_eq_true, if_false]
    | true =>
      have heos : p.inEos = false := honly.resolve_left (by simp [hvalid])
      simp only [decode, hrst, hvalid, heos, Bool.false_eq_true, if_false, if_true]
  simp only [step, hdecode]
  rfl

end Sys2Proof.Machine

/-! Proofs about the target opcodes (spec/40_opcode_table.md R70 to R79) and about `exec` as a whole: a row on its fetch cycle,
and the records of its mode. -/

namespace Sys2Proof.Machine

section TargetFetch

variable {i : Instr} {row : TargetRow} {f : OpFetch} {s : State}

theorem exec_target (hview : i.view = .target row f) : exec i s = .next (targetFetch row f s) := by
  rw [exec_eq_rowStep, hview]
  rfl

theorem rowDescriptor_of_admits {v : BitVec 1} (hadmits : row.variants.admits v = true) : rowDescriptor row v = row.desc :=
  if_pos hadmits

/-- R70, R79: a row that is the table's is looked up as its opcode byte is, under either variant. -/
theorem rowDescriptor_eq_lookup {v : BitVec 1} (h : row.variants.admits v = true → row = tableRow v row.opcode) :
    rowDescriptor row v = lookup blockParams v row.opcode := by
  by_cases hadmits : row.variants.admits v = true
  · rw [rowDescriptor_of_admits hadmits, h hadmits]
    rfl
  · exact if_neg hadmits

/-- A row that is looked up as its opcode byte is means the fetch cycle of that byte. -/
theorem targetFetch_eq_fetchCycle (h : row.variants.admits s.cfgVariant = true → row = tableRow s.cfgVariant row.opcode) :
    targetFetch row f s = fetchCycle blockParams (f.cycle row.opcode) s := by
  rw [targetFetch, rowDescriptor_eq_lookup h]
  rfl

/-- An opcode fetch is decoded from a raw cycle alone (R63). -/
theorem raw_of_decode_fetch {p : PortSample} {c : Cycle} {left : Option PortSample} (h : decode p = .ok (.fetch c, left)) :
    p.rst = false ∧ p.inValid = true := by
  rcases sample_cases p with hrst | hraw | ⟨hrst, hvalid, heos⟩ | ⟨hrst, hvalid, heos⟩
  · exact nomatch (decode_of_rst hrst).symm.trans h
  · exact hraw
  · exact nomatch (decode_of_eos hrst hvalid heos).symm.trans h
  · exact nomatch (decode_of_nothing hrst hvalid heos).symm.trans h

/-- Only `Instr.unknown` has an opcode operand, and its rows are of mode Implied. -/
theorem opcodeOk_of_mode (hview : i.view = .target row f) (hmode : row.desc.mode ≠ .implied) : i.opcodeOk = true := by
  cases i with
  | unknown op g =>
    obtain ⟨rfl, _⟩ := View.target.inj hview
    exact absurd rfl hmode
  | _ => rfl

end TargetFetch

/-- Settles O40: the row of a well-formed target opcode is the table's (R58, R59). -/
theorem targetOpcodeMeansItsFetchCycle : Obligations.TargetOpcodeMeansItsFetchCycle := by
  intro i row f s hwf hview
  rw [exec_target hview, targetFetch_eq_fetchCycle (row_of_view (opcodeOk_of_wf hwf) hview)]
  rfl

/-- Settles O14: the sample is an opcode fetch, which the decoded row means (R79). -/
theorem stepRunsTheDecodedTargetOpcode : Obligations.StepRunsTheDecodedTargetOpcode := by
  intro s p rest i hin hopcode
  obtain ⟨c, left, hdecode, rfl⟩ := exists_fetch_of_decodeOpcode hopcode
  have hleft : left.toList = if p.inEos then [{ p with inValid := false }] else [] := by
    obtain ⟨hrst, hvalid⟩ := raw_of_decode_fetch hdecode
    rw [(exec_of_decode hdecode).1]
    simp only [PortSample.left, hrst, hvalid, true_and]
  rw [step_of_decode hin hdecode, ← hleft, exec_target (decodeTarget_row _ _ _).1, targetFetch_eq_fetchCycle fun _ => rfl]
  rfl

section TargetRecords

/-! ### The records of the modes (R122, R81 to R95) -/

variable {d : Descriptor} {s : State}

/-- The record of a named opcode (R122). -/
theorem completeRecord_named (hnamed : d.mn ≠ unknownMnemonic) :
    completeRecord blockParams d s =
      { kind := .complete, reason := .none, err := .none, opcode := s.pOp, mn := d.mn, mode := d.mode
        len := byteLength blockParams d.mode, cnt := s.pCnt, b0 := recB0 s, b1 := recB1 s, pc := s.pPc
        target := recTarget d s, text := format blockParams d.mn d.mode (recB0 s) (recB1 s) s.pPc
        startTs := s.pStart, endTs := s.pEnd } := by
  rw [completeRecord, closedKind_eq, closedErr_eq, if_neg hnamed, if_neg hnamed]

/-- R73: what the mux answers with a mode other than Implied is named. -/
theorem lookup_named {P : Params} {v : BitVec 1} {op : Byte} (hmode : (lookup P v op).mode ≠ .implied) :
    (lookup P v op).mn ≠ unknownMnemonic := by
  intro hmark
  rw [lookup_mn_eq_unknown_iff.mp hmark] at hmode
  exact hmode rfl

theorem byteLength_of_two_byte_mode :
    ∀ m ∈ [AddrMode.relative, .immediate, .zeroPage, .zeroPageX, .zeroPageY, .indexedIndirect, .indirectIndexed, .indirect],
      byteLength blockParams m = 2 := by decide

theorem byteLength_of_three_byte_mode :
    ∀ m ∈ [AddrMode.absolute, .absoluteX, .absoluteY, .absoluteIndirect16, .absoluteIndirectX],
      byteLength blockParams m = 3 := by decide

/-- R81, R82: the text of a one-byte mode. -/
theorem format_one_byte {m : AddrMode} (hmode : m = .implied ∨ m = .impliedAccumulator) (mnem : Mnemonic) (b0 b1 : Byte)
    (pc : Addr) :
    format blockParams mnem m b0 b1 pc = mnem.text ++ (if m = .implied then [] else text [' ', 'A']) := by
  rcases hmode with rfl | rfl <;> rfl

end TargetRecords

section TargetSteps

variable {i : Instr} {row : TargetRow} {f : OpFetch} {s : State}

/-- A target opcode with nothing open is the `START` of its own descriptor (R124, R132). -/
theorem exec_target_closed (hview : i.view = .target row f) (hadmits : row.variants.admits s.cfgVariant = true)
    (hst : s.st = .idle ∨ s.st = .resyncing) :
    exec i s = .next (start blockParams row.desc (f.cycle row.opcode) s.clearOut) := by
  rw [exec_target hview, targetFetch, rowDescriptor_of_admits hadmits, fetchWith_closed _ _ _ _ hst]

/-- The registers once a longer target opcode is open and awaits `k` operand bytes (R121). -/
theorem exec_target_opens (hview : i.view = .target row f) (hadmits : row.variants.admits s.cfgVariant = true)
    (hst : s.st = .idle ∨ s.st = .resyncing) {k : BitVec 2} (hlen : byteLength blockParams row.desc.mode = k + 1)
    (hk : k ≠ 0) :
    exec i s = .next (s.opened (f.cycle row.opcode) k) := by
  have hmore : byteLength blockParams row.desc.mode ≠ 1 := by bv_omega
  have hn : byteLength blockParams row.desc.mode - 1 = k := by bv_omega
  rw [exec_target_closed hview hadmits hst, start_more _ _ _ _ hmore, hn]
  rfl

/-- The open instruction's descriptor, recomputed from `p_op` (R13), is the row's. -/
theorem openDescriptor_opened (hview : i.view = .target row f) (hadmits : row.variants.admits s.cfgVariant = true)
    (hmode : row.desc.mode ≠ .implied) (k : BitVec 2) :
    openDescriptor blockParams (s.opened (f.cycle row.opcode) k) = row.desc := by
  rw [row_of_view (opcodeOk_of_mode hview hmode) hview hadmits]
  rfl

/-- A row with operand bytes is named: the marker comes with mode Implied (R73). -/
theorem target_named (hview : i.view = .target row f) (hadmits : row.variants.admits s.cfgVariant = true)
    (hmode : row.desc.mode ≠ .implied) : row.desc.mn ≠ unknownMnemonic := by
  have hrow := row_of_view (opcodeOk_of_mode hview hmode) hview hadmits
  rw [hrow] at hmode ⊢
  exact lookup_named hmode

/-- The registers once the first of two operand bytes is in (R128). -/
def State.halfRead (s : State) (c c1 : Cycle) : State := { s.opened c 1 with pB0 := c1.data, pCnt := 1, pEnd := c1.ts }

theorem exec_read_first (s : State) (c c1 : Cycle) : exec (.read c1) (s.opened c 2) = .next (s.halfRead c c1) := by
  obtain ⟨hmore, _⟩ := readCollectsAnOperandByte c1 (s.opened c 2) rfl
  have hn : (s.opened c 2).n = 2 := rfl
  rw [hmore (by rw [hn]; decide), hn]
  rfl

end TargetSteps

/-- Settles O41: `START` of one byte closes the row with its record (R121, R122). -/
theorem oneByteOpcodesCloseInTheirFetch : Obligations.OneByteOpcodesCloseInTheirFetch := by
  intro i row f s hview hmode hadmits hst
  have hlen : byteLength blockParams row.desc.mode = 1 := by rcases hmode with h | h <;> rw [h] <;> rfl
  have hrelative : row.desc.mode ≠ .relative := by rcases hmode with h | h <;> rw [h] <;> decide
  rw [exec_target_closed hview hadmits hst, start_one _ _ _ _ hlen, completeRecord, closedKind_eq, closedErr_eq, hlen,
    format_one_byte hmode, recTarget, if_neg hrelative]
  rfl

/-- Settles O42: one operand byte is awaited, and its read closes the row (R121, R128). -/
theorem twoByteOpcodesCloseOnTheirRead : Obligations.TwoByteOpcodesCloseOnTheirRead := by
  intro i row f s hview hmode hadmits hst
  have hlen := byteLength_of_two_byte_mode _ hmode
  have himplied : row.desc.mode ≠ .implied := by rintro h; rw [h] at hlen; exact absurd hlen (by decide)
  have hdesc := openDescriptor_opened (s := s) hview hadmits himplied 1
  have hnamed := target_named hview hadmits himplied
  refine ⟨_, exec_target_opens hview hadmits hst hlen (by decide), rfl, fun c => ?_⟩
  obtain ⟨_, hlast⟩ := readCollectsAnOperandByte c (s.opened (f.cycle row.opcode) 1) rfl
  rw [hlast rfl, ← openDescriptor, hdesc, completeRecord_named hnamed, hlen]
  rfl

/-- Settles O43: two operand bytes are awaited; the first read leaves one, the second closes the row (R121, R128). -/
theorem threeByteOpcodesCloseOnTheirSecondRead : Obligations.ThreeByteOpcodesCloseOnTheirSecondRead := by
  intro i row f s hview hmode hadmits hst
  have hlen := byteLength_of_three_byte_mode _ hmode
  have himplied : row.desc.mode ≠ .implied := by rintro h; rw [h] at hlen; exact absurd hlen (by decide)
  have hrelative : row.desc.mode ≠ .relative := by rintro h; rw [h] at hlen; exact absurd hlen (by decide)
  have hdesc := openDescriptor_opened (s := s) hview hadmits himplied 2
  have hnamed := target_named hview hadmits himplied
  have hdesc' (c1 : Cycle) : openDescriptor blockParams (s.halfRead (f.cycle row.opcode) c1) = row.desc := hdesc
  refine ⟨_, exec_target_opens hview hadmits hst hlen (by decide), rfl, fun c1 c2 => ?_⟩
  obtain ⟨_, hlast⟩ := readCollectsAnOperandByte c2 (s.halfRead (f.cycle row.opcode) c1) rfl
  refine ⟨_, exec_read_first s _ c1, rfl, rfl, rfl, ?_⟩
  rw [hlast rfl, ← openDescriptor, hdesc', completeRecord_named hnamed, hlen, recTarget, if_neg hrelative]
  rfl

section Completion

/-! ### Every instruction completes (R120) -/

/-- The event of an ambiguous cycle: both lines indeterminate (R111). -/
def ambiguousEvent (c : Cycle) : Event := .raw c.ts (packRaw c.addr c.data 0b10 0b10)

theorem eventStep_ambiguousEvent (P : Params) (s : State) (c : Cycle) :
    eventStep P s (ambiguousEvent c) = ambiguousCycle P c s := by
  simp only [ambiguousEvent, eventStep, classify_packRaw]; rfl

theorem inputs_fetchWith (P : Params) (d : Descriptor) (c : Cycle) (s : State) :
    (fetchWith P d c s).inputs = s.inputs := by
  by_cases hst : s.st = .faulted
  · rw [fetchWith_faulted _ _ _ _ hst]; rfl
  · rw [fetchWith_live _ _ _ _ hst]
    by_cases hlen : byteLength P d.mode = 1
    · rw [start_one _ _ _ _ hlen]
    · rw [start_more _ _ _ _ hlen]

/-- Each row of level E has the effect of one event (R120). -/
theorem rowStep_event {r : View} (h : r.isEvent = true) (s : State) : ∃ e, rowStep s r = eventStep blockParams s e := by
  cases r with
  | fetch c => exact ⟨c.fetchEvent, (eventStep_fetchEvent blockParams s c).symm⟩
  | read c => exact ⟨c.readEvent, (eventStep_readEvent blockParams s c).symm⟩
  | write c => exact ⟨c.writeEvent, (eventStep_writeEvent blockParams s c).symm⟩
  | ambigInconsistent c => exact ⟨ambiguousEvent c, (eventStep_ambiguousEvent blockParams s c).symm⟩
  | ambigSync _ _ c => exact ⟨ambiguousEvent c, (eventStep_ambiguousEvent blockParams s c).symm⟩
  | ambigRnw _ _ c => exact ⟨ambiguousEvent c, (eventStep_ambiguousEvent blockParams s c).symm⟩
  | eos => exact ⟨.eos, rfl⟩
  | reset v strict => exact ⟨.reset v strict, rfl⟩
  | target row f => exact nomatch h

theorem inputs_rowStep (r : View) (s : State) : (rowStep s r).inputs = s.inputs := by
  cases hlevel : r.isEvent with
  | true =>
    obtain ⟨e, he⟩ := rowStep_event hlevel s
    rw [he, eventStep_inputs]
  | false =>
    cases r with
    | target row f => exact inputs_fetchWith _ _ _ _
    | _ => exact nomatch hlevel

end Completion

/-- Settles O44: `exec` is one equation over the rows, and no row but RESET writes the configuration. -/
theorem everyInstructionCompletesAndKeepsConfiguration : Obligations.EveryInstructionCompletesAndKeepsConfiguration := by
  intro i s
  refine ⟨_, exec_eq_rowStep i s, inputs_rowStep i.view s, fun hne => ?_⟩
  exact Prod.ext_iff.mp (config_rowStep (view_ne_reset hne) s)

/-- Settles O27: no row but RESET has an effect in `Faulted` (R137, R165). -/
theorem faultedIgnoresAllButReset : Obligations.FaultedIgnoresAllButReset := by
  intro i s hst hne
  rw [exec_eq_rowStep, rowStep_faulted (view_ne_reset hne) s hst]
  rfl

/-- Settles O26: end-of-stream by state (R136, R137). -/
theorem endOfStreamFlushesTheOpenInstruction : Obligations.EndOfStreamFlushesTheOpenInstruction :=
  fun s => ⟨fun h => congrArg _ (endOfStream_open blockParams s h), fun h => congrArg _ (endOfStream_idle blockParams s h),
    fun h => congrArg _ (endOfStream_resyncing blockParams s h), fun h => congrArg _ (endOfStream_faulted blockParams s h)⟩

end Sys2Proof.Machine

/-! Proofs about the records of an event (spec/30_encoding.md §5, spec/43_reconstructor.md §8, §9): that the fields of each agree,
how many there are, and how they balance with the opcode fetches. -/

namespace Sys2Proof.Machine

section RecordConsistency

variable {P : Params} {v : BitVec 1} {s : State} (d : Descriptor)

/-! ### The flags and operand bytes of a closed record (R56, D31) -/

theorem closedKind_unknown_iff : closedKind d = .unknown ↔ d.mn = unknownMnemonic := by
  rw [closedKind_eq]; split <;> simp [*]

theorem closedKind_complete_iff : closedKind d = .complete ↔ d.mn ≠ unknownMnemonic := by
  rw [closedKind_eq]; split <;> simp [*]

theorem closedKind_ne_truncated : closedKind d ≠ .truncated := by
  rw [closedKind_eq]; split <;> simp

theorem closedErr_unknown_iff : closedErr d = .unknownOpcode ↔ d.mn = unknownMnemonic := by
  rw [closedErr_eq]; split <;> simp [*]

theorem closedErr_none_iff : closedErr d = .none ↔ d.mn ≠ unknownMnemonic := by
  rw [closedErr_eq]; split <;> simp [*]

theorem closedErr_ne_truncated : closedErr d ≠ .truncatedInstruction := by
  rw [closedErr_eq]; split <;> simp

theorem recB0_of_no_operand (h : s.pCnt = 0) : recB0 s = 0 := by
  rw [recB0_eq, if_pos h]

theorem recB1_of_short (h : s.pCnt.toNat < 2) : recB1 s = 0 := if_neg (by omega)

/-- R122, R139: with all its operand bytes in, an instruction closes with a consistent record. -/
theorem completeRecord_consistent (hmodes : AdmissibleModes P)
    (hcnt : s.pCnt.toNat + 1 = (byteLength P (lookup P v s.pOp).mode).toNat) (hspan : s.pCnt = 0 → s.pStart = s.pEnd) :
    RecordConsistent P v (completeRecord P (lookup P v s.pOp) s) := by
  have hrelative : (lookup P v s.pOp).mode = .relative → s.pCnt ≠ 0 := by
    intro hmode hzero
    rw [hmode, hmodes.relative, hzero] at hcnt
    exact absurd hcnt (by decide)
  have hunknown : (lookup P v s.pOp).mn = unknownMnemonic → (lookup P v s.pOp).mode ≠ .relative := by
    intro hmark
    rw [lookup_mn_eq_unknown_iff.mp hmark]
    decide
  have htarget := recTarget_eq hrelative
  have htruncated := closedKind_ne_truncated (lookup P v s.pOp)
  exact
    { descriptor := rfl
      len := rfl
      completeErr := (closedKind_complete_iff _).trans (closedErr_none_iff _).symm
      unknownErr := (closedKind_unknown_iff _).trans (closedErr_unknown_iff _).symm
      truncatedErr := iff_of_false htruncated (closedErr_ne_truncated _)
      truncatedReason := iff_of_false htruncated (fun h => h rfl)
      unknownMarker := closedKind_unknown_iff _
      closedCount := fun _ => hcnt
      truncatedCount := fun h => absurd h htruncated
      noFirstByte := recB0_of_no_operand
      noSecondByte := recB1_of_short
      branch := fun _ hmode => htarget.trans (if_pos hmode)
      noBranch := fun h => htarget.trans (if_neg (h.elim
        (fun hkind => hunknown (not_not.mp (mt (closedKind_complete_iff _).mpr hkind))) id))
      closedText := fun _ => rfl
      truncatedText := fun h => absurd h htruncated
      span := hspan }

/-- R123, R139: an open instruction is cut off with a consistent record. -/
theorem truncatedRecord_consistent (hmodes : AdmissibleModes P) (hinv : s.Inv P) (hspan : s.spanOk) (isOpen : s.st = .awaiting)
    {why : Reason} (hwhy : why ≠ .none) :
    RecordConsistent P s.cfgVariant (truncatedRecord P (openDescriptor P s) why s) := by
  obtain ⟨hopen, _⟩ := hinv
  obtain ⟨hpos, _, _, hsum, hlen⟩ := hopen isOpen
  have hmark : (openDescriptor P s).mn ≠ unknownMnemonic := by
    intro hmark
    rw [openDescriptor, byteLength_lookup_unknown hmodes hmark] at hlen
    exact absurd hlen (by decide)
  have hcnt : s.pCnt.toNat + 1 < (byteLength P (openDescriptor P s).mode).toNat := by omega
  exact
    { descriptor := rfl
      len := rfl
      completeErr := iff_of_false nofun nofun
      unknownErr := iff_of_false nofun nofun
      truncatedErr := iff_of_true rfl rfl
      truncatedReason := iff_of_true rfl hwhy
      unknownMarker := iff_of_false nofun hmark
      closedCount := fun h => absurd rfl h
      truncatedCount := fun _ => hcnt
      noFirstByte := recB0_of_no_operand
      noSecondByte := fun _ => rfl
      branch := nofun
      noBranch := fun _ => rfl
      closedText := fun h => absurd rfl h
      truncatedText := fun _ => rfl
      span := hspan isOpen }

end RecordConsistency

section Effects

variable {P : Params} {s t : State} {e : Event}

theorem interrupted_consistent (hmodes : AdmissibleModes P) (hinv : s.Inv P) (hspan : s.spanOk) :
    ∀ r ∈ interrupted P s, RecordConsistent P s.cfgVariant r := by
  by_cases isOpen : s.st = .awaiting
  · rw [interrupted_open P s isOpen, List.forall_mem_singleton]
    exact truncatedRecord_consistent hmodes hinv hspan isOpen nofun
  · rw [interrupted_closed P s isOpen]
    exact List.forall_mem_nil _

/-- R20 (b): at most one operand byte is in before another is counted. -/
theorem count_after_operand (hinv : s.Inv P) (isOpen : s.st = .awaiting) : s.pCnt + 1 ≠ 0 := by
  obtain ⟨hopen, _⟩ := hinv
  obtain ⟨_, _, hcnt, _⟩ := hopen isOpen
  bv_omega

/-- R20 (b): the last operand byte makes the count that of the mode. -/
theorem count_after_last_operand (hinv : s.Inv P) (isOpen : s.st = .awaiting) (last : s.n = 1) :
    (s.pCnt + 1).toNat + 1 = (byteLength P (openDescriptor P s).mode).toNat := by
  obtain ⟨hopen, _⟩ := hinv
  obtain ⟨_, _, hcnt, hsum, _⟩ := hopen isOpen
  rw [last] at hsum
  bv_omega

/-- R122, R123: each record of an effect is the cut one of the open instruction, or closes an instruction with all its bytes. -/
theorem Effect.consistent (h : Effect P s e t) (hmodes : AdmissibleModes P) (hinv : s.Inv P) (hspan : s.spanOk) :
    ∀ r ∈ t.out, RecordConsistent P s.cfgVariant r := by
  have hcut := interrupted_consistent hmodes hinv hspan
  cases h with
  | quiet _ _ _ => exact List.forall_mem_nil _
  | fetchOne ts w _ _ len =>
    refine List.forall_mem_append.mpr ⟨hcut, List.forall_mem_singleton.mpr ?_⟩
    exact completeRecord_consistent (v := s.cfgVariant) (s := s.openPending (rawCycle ts w)) hmodes
      (congrArg BitVec.toNat len).symm fun _ => rfl
  | fetchMore ts w _ _ _ => exact hcut
  | operand ts w _ _ _ => exact List.forall_mem_nil _
  | lastOperand ts w _ isOpen last =>
    have hall := count_after_last_operand hinv isOpen last
    have hnonzero := count_after_operand hinv isOpen
    refine List.forall_mem_singleton.mpr ?_
    exact completeRecord_consistent (v := s.cfgVariant) (s := s.appendOperand (rawCycle ts w)) hmodes hall
      fun hzero => absurd hzero hnonzero
  | resync ts w _ _ _ => exact hcut
  | hardError ts w _ _ _ => exact hcut
  | flush isOpen => exact List.forall_mem_singleton.mpr (truncatedRecord_consistent hmodes hinv hspan isOpen nofun)
  | leaveResync _ => exact List.forall_mem_nil _
  | reset v strict => exact List.forall_mem_nil _

/-- R121, R139: `START` sets both ends of the span, and an operand byte is counted. -/
theorem Effect.spanOk (h : Effect P s e t) (hinv : s.Inv P) (hspan : s.spanOk) : t.spanOk := by
  cases h with
  | quiet _ _ _ => exact hspan
  | fetchMore ts w _ _ _ => exact fun _ _ => rfl
  | operand ts w _ isOpen _ =>
    intro _ hzero
    exact absurd hzero (count_after_operand hinv isOpen)
  | _ => exact nofun

end Effects

/-- Settles O49: by the effects of an event, the records of which are those of R122 and R123. -/
theorem emittedRecordsAreConsistent : Obligations.EmittedRecordsAreConsistent :=
  fun P s e hmodes hinv hspan =>
    ⟨(eventStep_effect P s e).consistent hmodes hinv hspan, (eventStep_effect P s e).spanOk hinv hspan⟩

section Balance

variable {P : Params} {s t : State} {e : Event}

/-- The instructions an event opens: one for an opcode fetch (R121). -/
def Event.opens (e : Event) : Nat := if e.hasKind .fetch then 1 else 0

theorem opens_of_fetch {ts : Timestamp} {w : RawWord} (h : (classify ts w).kind = .fetch) : (Event.raw ts w).opens = 1 :=
  if_pos (hasKind_raw ts w .fetch h)

/-- A cycle of another kind opens none. -/
theorem opens_of_hasKind {k : CycleKind} (h : e.hasKind k = true) (hk : k ≠ .fetch) : e.opens = 0 := by
  cases e with
  | raw ts w =>
    have hkind : (classify ts w).kind = k := beq_iff_eq.mp h
    refine if_neg fun hfetch => hk ?_
    exact hkind.symm.trans (beq_iff_eq.mp hfetch)
  | eos => rfl
  | reset v strict => rfl

theorem opens_of_kind {ts : Timestamp} {w : RawWord} {k : CycleKind} (h : (classify ts w).kind = k) (hk : k ≠ .fetch) :
    (Event.raw ts w).opens = 0 := opens_of_hasKind (hasKind_raw ts w k h) hk

theorem openCount_open (h : s.st = .awaiting) : s.openCount = 1 := if_pos h

theorem openCount_closed (h : s.st ≠ .awaiting) : s.openCount = 0 := if_neg h

/-- R129, R131: what interrupts an instruction closes it with one record. -/
theorem interrupted_length : (interrupted P s).length = s.openCount := by
  by_cases isOpen : s.st = .awaiting
  · rw [interrupted_open P s isOpen, openCount_open isOpen]; rfl
  · rw [interrupted_closed P s isOpen, openCount_closed isOpen]; rfl

/-- R144 for one event outside `Faulted`: what it closes is what was open before it and what it opened, less what is open
after it. -/
theorem Effect.balance (h : Effect P s e t) (live : s.st ≠ .faulted) (hreset : e.isReset = false) :
    s.openCount + e.opens = t.out.length + t.openCount := by
  cases h with
  | quiet _ _ why =>
    have hnone : e.opens = 0 := by
      rcases why with hst | hwrite | ⟨hread, _⟩ | ⟨rfl, _⟩
      · exact absurd hst live
      · exact opens_of_hasKind hwrite nofun
      · exact opens_of_hasKind hread nofun
      · rfl
    rw [hnone]
    exact Nat.add_comm _ _
  | fetchOne ts w kind _ _ => simp [State.openCount, interrupted_length, opens_of_fetch kind]
  | fetchMore ts w kind _ _ => simp [State.openCount, interrupted_length, opens_of_fetch kind]
  | operand ts w kind isOpen _ => simp [State.openCount, isOpen, opens_of_kind kind]
  | lastOperand ts w kind isOpen _ => simp [State.openCount, isOpen, opens_of_kind kind]
  | resync ts w kind _ _ => simp [State.openCount, interrupted_length, opens_of_kind kind]
  | hardError ts w kind _ _ => simp [State.openCount, interrupted_length, opens_of_kind kind]
  | flush isOpen => simp [State.openCount, isOpen, Event.opens, Event.hasKind]
  | leaveResync resyncing => simp [State.openCount, resyncing, Event.opens, Event.hasKind]
  | reset v strict => exact nomatch hreset

/-- No event closes more than was open before it and it opened: `Faulted` and reset close nothing. -/
theorem eventStep_balance_le :
    (eventStep P s e).out.length + (eventStep P s e).openCount ≤ s.openCount + e.opens := by
  cases hreset : e.isReset with
  | true =>
    cases e with
    | reset v strict => exact Nat.zero_le _
    | raw ts w => exact nomatch hreset
    | eos => exact nomatch hreset
  | false =>
    by_cases hst : s.st = .faulted
    · rw [eventStep_faulted hst hreset, openCount_closed (s := s.clearOut) (by simp [hst])]
      exact Nat.zero_le _
    · exact ((eventStep_effect P s e).balance hst hreset).ge

theorem interrupted_length_le : (interrupted P s).length ≤ 1 := by
  rw [interrupted_length, State.openCount]
  split <;> decide

/-- R140: only a fetch of a one-byte opcode closes an instruction besides the one it interrupts. -/
theorem Effect.out_length (h : Effect P s e t) :
    t.out.length ≤ 1 ∨ t.out.length = 2 ∧ s.st = .awaiting ∧ ∃ ts w, e = .raw ts w ∧ (classify ts w).kind = .fetch ∧
      byteLength P (lookup P s.cfgVariant (rawData w)).mode = 1 := by
  cases h with
  | fetchOne ts w kind _ len =>
    by_cases isOpen : s.st = .awaiting
    · exact .inr ⟨by rw [interrupted_open P s isOpen]; rfl, isOpen, ts, w, rfl, kind, len⟩
    · exact .inl (by rw [interrupted_closed P s isOpen]; exact le_rfl)
  | fetchMore ts w _ _ _ => exact .inl interrupted_length_le
  | resync ts w _ _ _ => exact .inl interrupted_length_le
  | hardError ts w _ _ _ => exact .inl interrupted_length_le
  | lastOperand ts w _ _ _ => exact .inl le_rfl
  | flush _ => exact .inl le_rfl
  | _ => exact .inl (Nat.zero_le 1)

end Balance

/-- Settles O48: the interrupted instruction and the one-byte one that interrupts it (R140). -/
theorem atMostTwoRecordsPerStep : Obligations.AtMostTwoRecordsPerStep := by
  intro P s e
  rcases (eventStep_effect P s e).out_length with hone | ⟨htwo, hfetch⟩
  · exact ⟨hone.trans (by decide), fun htwo => absurd (htwo.symm.trans_le hone) (by decide)⟩
  · exact ⟨htwo.le, fun _ => hfetch⟩

end Sys2Proof.Machine

/-! Proofs about runs over streams (spec/43_reconstructor.md §9, spec/60_exceptions.md §3, spec/10_state.md §9): what every event
keeps, every stream keeps, and two runs that agree step by step give the same records. -/

namespace Sys2Proof.Machine

section Runs

variable {P : Params} {s t : State} {e : Event} {es : List Event}

/-- What every event of a stream keeps, and says of its records, holds at the end and of all records. -/
theorem runEvents_induction {Q : State → Prop} {R : Record → Prop} {good : Event → Prop}
    (hstep : ∀ s e, good e → Q s → Q (eventStep P s e) ∧ ∀ r ∈ (eventStep P s e).out, R r) (hs : Q s)
    (hes : ∀ e ∈ es, good e) : Q (runEvents P s es).1 ∧ ∀ r ∈ (runEvents P s es).2, R r := by
  induction es generalizing s with
  | nil => exact ⟨hs, List.forall_mem_nil _⟩
  | cons e es ih =>
    obtain ⟨hgood, hrest⟩ := List.forall_mem_cons.mp hes
    obtain ⟨hnext, hnow⟩ := hstep s e hgood hs
    obtain ⟨hlast, hlater⟩ := ih hnext hrest
    rw [runEvents_cons]
    exact ⟨hlast, List.forall_mem_append.mpr ⟨hnow, hlater⟩⟩

/-- No event but reset writes the configuration (R17). -/
theorem Effect.cfgStrict_eq (h : Effect P s e t) (hreset : e.isReset = false) : t.cfgStrict = s.cfgStrict := by
  cases h with
  | reset v strict => exact nomatch hreset
  | _ => rfl

theorem eventStep_cfgStrict (hreset : e.isReset = false) : (eventStep P s e).cfgStrict = s.cfgStrict :=
  (eventStep_effect P s e).cfgStrict_eq hreset

/-- R165: from `Faulted` a stream without a reset emits nothing and leaves all but the output as it is. -/
theorem runEvents_faulted (hst : s.st = .faulted) (hes : ∀ e ∈ es, e.isReset = false) :
    ∃ o, runEvents P s es = ({ s with out := o }, []) :=
  runEvents_of_ignored es fun e he _ => eventStep_faulted hst (hes e he)

/-- R20, R141: over a stream without a reset the invariant and the mode stay. -/
theorem runEvents_inv_strict (hinv : s.Inv P) (hes : ∀ e ∈ es, e.isReset = false) :
    (runEvents P s es).1.Inv P ∧ (runEvents P s es).1.cfgStrict = s.cfgStrict := by
  have hstep (t : State) (e : Event) (hreset : e.isReset = false) (h : t.Inv P ∧ t.cfgStrict = s.cfgStrict) :
      ((eventStep P t e).Inv P ∧ (eventStep P t e).cfgStrict = s.cfgStrict) ∧ ∀ r ∈ (eventStep P t e).out, True :=
    ⟨⟨everyEventKeepsTheInvariant P t e h.1, (eventStep_cfgStrict hreset).trans h.2⟩, fun _ _ => trivial⟩
  exact (runEvents_induction hstep ⟨hinv, rfl⟩ hes).1

/-- R20 (d), (e): soft mode is never `Faulted`, and then `fault` is 0. -/
theorem live_of_soft (hinv : s.Inv P) (hsoft : s.cfgStrict = 0) : s.st ≠ .faulted := by
  obtain ⟨_, _, _, hmode⟩ := hinv
  exact hmode.2 hsoft

end Runs

/-- Settles O51: every event is ignored in `Faulted` (R165). -/
theorem faultedAbsorbsEveryStreamWithoutReset : Obligations.FaultedAbsorbsEveryStreamWithoutReset := by
  intro P s es hst hes
  obtain ⟨o, hrun⟩ := runEvents_faulted (P := P) hst hes
  rw [hrun]
  exact ⟨rfl, rfl⟩

/-- Settles O52: the invariant and the mode stay over the stream (R141, R171). -/
theorem softModeNeverFaults : Obligations.SoftModeNeverFaults := by
  intro P s es hinv hsoft hes
  obtain ⟨hinv', hstrict⟩ := runEvents_inv_strict hinv hes
  have hlive := live_of_soft hinv' (hstrict.trans hsoft)
  exact ⟨hlive, fault_none_of_live hinv' hlive⟩

/-- Settles O50: of all effects the hard error alone writes `fault` (R164). -/
theorem onlyAStrictAmbiguousCycleFaults : Obligations.OnlyAStrictAmbiguousCycleFaults := by
  intro P s e hnone hfault
  have heffect := eventStep_effect P s e
  generalize eventStep P s e = t at heffect hfault ⊢
  cases heffect with
  | hardError ts w kind _ strict => exact ⟨strict, rfl, ts, w, rfl, kind, rfl, rfl, rfl⟩
  | reset v strict => exact absurd rfl hfault
  | _ => exact absurd hnone hfault

section Balance

variable {P : Params} {s : State} {es : List Event}

theorem filter_fetch_length (e : Event) (es : List Event) :
    ((e :: es).filter (Event.hasKind .fetch)).length = e.opens + (es.filter (Event.hasKind .fetch)).length := by
  rw [List.filter_cons, Event.opens]
  split
  · rw [List.length_cons, Nat.add_comm]
  · rw [Nat.zero_add]

/-- R144: from a state outside `Faulted` in each step, every instruction opened is closed by one record or still open. -/
theorem runEvents_balance (hinv : s.Inv P) (hes : ∀ e ∈ es, e.isReset = false)
    (hlive : s.cfgStrict = 0 ∨ (runEvents P s es).1.unfaulted) :
    s.openCount + (es.filter (Event.hasKind .fetch)).length = (runEvents P s es).2.length + (runEvents P s es).1.openCount := by
  induction es generalizing s with
  | nil => exact Nat.add_comm _ _
  | cons e es ih =>
    obtain ⟨hreset, hrest⟩ := List.forall_mem_cons.mp hes
    have hst : s.st ≠ .faulted := by
      rcases hlive with hsoft | hend
      · exact live_of_soft hinv hsoft
      · intro hst
        obtain ⟨o, hrun⟩ := runEvents_faulted (P := P) hst hes
        rw [hrun] at hend
        obtain ⟨_, _, hfault, _⟩ := hinv
        exact hfault.mp hst hend
    have hnow := (eventStep_effect P s e).balance hst hreset
    have hlater := ih (everyEventKeepsTheInvariant P s e hinv) hrest
      (hlive.imp_left (eventStep_cfgStrict (P := P) hreset).trans)
    simp only [filter_fetch_length, runEvents_cons, List.length_append]
    omega

/-- R144 over any stream: a reset or the hard error may lose what was opened, and closes nothing twice. -/
theorem runEvents_balance_le :
    (runEvents P s es).2.length + (runEvents P s es).1.openCount ≤
      s.openCount + (es.filter (Event.hasKind .fetch)).length := by
  induction es generalizing s with
  | nil => exact (Nat.add_comm _ _).le
  | cons e es ih =>
    have hnow := eventStep_balance_le (P := P) (s := s) (e := e)
    have hlater := ih (s := eventStep P s e)
    simp only [filter_fetch_length, runEvents_cons, List.length_append]
    omega

end Balance

/-- Settles O54: the balance of each event, summed over the stream. -/
theorem everyFetchIsClosedByOneRecord : Obligations.EveryFetchIsClosedByOneRecord :=
  ⟨fun _ _ _ => runEvents_balance, fun _ _ _ => runEvents_balance_le⟩

end Sys2Proof.Machine

/-! Proof that no register which reset leaves unspecified is read (spec/10_state.md §9, U6): two states that agree in what the
rules may read have the same effects. -/

namespace Sys2Proof.Machine

section SameToTheRules

variable {P : Params} {s s' t : State} {e : Event}

/-- No rule compares the output. -/
theorem SameToTheRules.setOut (h : SameToTheRules s t) (o o' : List Record) :
    SameToTheRules { s with out := o } { t with out := o' } :=
  ⟨h.st, h.n, h.cfgVariant, h.cfgStrict, h.fault, h.opened, h.firstByte, h.secondByte, h.faultRegs⟩

/-- With nothing open, no pending register is read. -/
theorem SameToTheRules.of_closed (hst : s.st = t.st) (hclosed : s.st ≠ .awaiting) (hn : s.n = t.n)
    (hvariant : s.cfgVariant = t.cfgVariant) (hstrict : s.cfgStrict = t.cfgStrict) (hfault : s.fault = t.fault)
    (hregs : s.fault ≠ .none → s.fTs = t.fTs ∧ s.fAddr = t.fAddr ∧ s.fData = t.fData) : SameToTheRules s t where
  st := hst
  n := hn
  cfgVariant := hvariant
  cfgStrict := hstrict
  fault := hfault
  opened isOpen := absurd isOpen hclosed
  firstByte isOpen := absurd isOpen hclosed
  secondByte isOpen := absurd isOpen hclosed
  faultRegs := hregs

theorem SameToTheRules.recB0_eq (h : SameToTheRules s t) (isOpen : s.st = .awaiting) : recB0 s = recB0 t := by
  obtain ⟨_, hcnt, _⟩ := h.opened isOpen
  rw [recB0, recB0, ← hcnt]
  by_cases hfirst : 1 ≤ s.pCnt.toNat
  · rw [if_pos hfirst, if_pos hfirst, h.firstByte isOpen hfirst]
  · rw [if_neg hfirst, if_neg hfirst]

/-- A cut record shows only what the open instruction has written (R123). -/
theorem SameToTheRules.truncatedRecord_eq (h : SameToTheRules s t) (isOpen : s.st = .awaiting) (why : Reason) :
    truncatedRecord P (openDescriptor P s) why s = truncatedRecord P (openDescriptor P t) why t := by
  obtain ⟨hop, hcnt, hpc, hstart, hend⟩ := h.opened isOpen
  simp only [truncatedRecord, openDescriptor, h.recB0_eq isOpen, h.cfgVariant, hop, hcnt, hpc, hstart, hend]

theorem SameToTheRules.interrupted_eq (h : SameToTheRules s t) : interrupted P s = interrupted P t := by
  by_cases isOpen : s.st = .awaiting
  · rw [interrupted_open P s isOpen, interrupted_open P t (h.st.symm.trans isOpen), h.truncatedRecord_eq isOpen]
  · rw [interrupted_closed P s isOpen, interrupted_closed P t (h.st ▸ isOpen)]

/-- A one-byte record shows no operand byte: the only one-byte mode that could read one, Relative, has length 2 (R122). -/
theorem completeRecord_one_byte (hmodes : AdmissibleModes P) {d : Descriptor} (hlen : byteLength P d.mode = 1) (c : Cycle) :
    completeRecord P d (s.openPending c) = completeRecord P d (t.openPending c) := by
  have hmode : d.mode ≠ .relative := by
    intro hmode
    rw [hmode, hmodes.relative] at hlen
    exact absurd hlen (by decide)
  simp only [completeRecord, recTarget, if_neg hmode]
  rfl

/-- After an operand byte both operand registers the record shows are written (R128). -/
theorem SameToTheRules.appendOperand_eq (h : SameToTheRules s t) (isOpen : s.st = .awaiting) (c : Cycle) :
    (s.appendOperand c).pB0 = (t.appendOperand c).pB0 ∧
      ((s.appendOperand c).pCnt.toNat = 2 → (s.appendOperand c).pB1 = (t.appendOperand c).pB1) := by
  obtain ⟨_, hcnt, _⟩ := h.opened isOpen
  simp only [State.appendOperand_pB0, State.appendOperand_pB1, State.appendOperand_pCnt, ← hcnt]
  by_cases hzero : s.pCnt = 0
  · simp [hzero]
  · have hfirst : 1 ≤ s.pCnt.toNat := by bv_omega
    rw [if_neg hzero, if_neg hzero, if_neg hzero, if_neg hzero]
    exact ⟨h.firstByte isOpen hfirst, fun _ => rfl⟩

theorem SameToTheRules.appendOperand (h : SameToTheRules s t) (isOpen : s.st = .awaiting) (c : Cycle) :
    SameToTheRules (s.appendOperand c) (t.appendOperand c) := by
  obtain ⟨hop, hcnt, hpc, hstart, _⟩ := h.opened isOpen
  obtain ⟨hb0, hb1⟩ := h.appendOperand_eq isOpen c
  exact
    { st := h.st
      n := congrArg (· - 1) h.n
      cfgVariant := h.cfgVariant
      cfgStrict := h.cfgStrict
      fault := h.fault
      opened := fun _ => ⟨hop, congrArg (· + 1) hcnt, hpc, hstart, rfl⟩
      firstByte := fun _ _ => hb0
      secondByte := fun _ => hb1
      faultRegs := h.faultRegs }

/-- The record of the last operand byte shows only bytes that were written (R122). -/
theorem SameToTheRules.completeRecord_eq (h : SameToTheRules s t) (isOpen : s.st = .awaiting) (c : Cycle) :
    completeRecord P (openDescriptor P s) (s.appendOperand c) = completeRecord P (openDescriptor P t) (t.appendOperand c) := by
  obtain ⟨hop, hcnt, hpc, hstart, _⟩ := h.opened isOpen
  obtain ⟨hb0, hb1⟩ := h.appendOperand_eq isOpen c
  have hcnt' : (s.appendOperand c).pCnt = (t.appendOperand c).pCnt := congrArg (· + 1) hcnt
  have hdesc : openDescriptor P s = openDescriptor P t := by rw [openDescriptor, openDescriptor, h.cfgVariant, hop]
  have hrecB0 : recB0 (s.appendOperand c) = recB0 (t.appendOperand c) := by rw [recB0, recB0, hcnt', hb0]
  have hrecB1 : recB1 (s.appendOperand c) = recB1 (t.appendOperand c) := by
    rw [recB1, recB1, ← hcnt']
    exact if_ctx_congr Iff.rfl hb1 fun _ => rfl
  have htarget : recTarget (openDescriptor P s) (s.appendOperand c) = recTarget (openDescriptor P t) (t.appendOperand c) := by
    rw [recTarget, recTarget, hdesc, hb0, State.appendOperand_pPc, State.appendOperand_pPc, hpc]
  rw [completeRecord, completeRecord, hrecB0, hrecB1, htarget, hdesc, hcnt']
  simp only [State.appendOperand_pOp, State.appendOperand_pPc, State.appendOperand_pStart, State.appendOperand_pEnd, hop, hpc,
    hstart]

/-- U6: two states that agree on what the rules may read have the same effects, with equal records, and agree after them. -/
theorem Effect.same (hmodes : AdmissibleModes P) (he : Effect P s e s') (h : SameToTheRules s t) :
    ∃ t', Effect P t e t' ∧ s'.out = t'.out ∧ SameToTheRules s' t' := by
  have hst := h.st
  have hvariant := h.cfgVariant
  have hcut := h.interrupted_eq (P := P)
  cases he with
  | quiet _ notReset why => exact ⟨_, .quiet _ notReset (hst ▸ why), rfl, h.setOut _ _⟩
  | fetchOne ts w kind live len =>
    refine ⟨_, .fetchOne ts w kind (hst ▸ live) (hvariant ▸ len), ?_, ?_⟩
    · rw [← hvariant, ← hcut, completeRecord_one_byte hmodes len]
    · exact .of_closed rfl nofun rfl hvariant h.cfgStrict h.fault h.faultRegs
  | fetchMore ts w kind live len =>
    refine ⟨_, .fetchMore ts w kind (hst ▸ live) (hvariant ▸ len), hcut, ?_⟩
    exact
      { st := rfl
        n := by rw [hvariant]
        cfgVariant := hvariant
        cfgStrict := h.cfgStrict
        fault := h.fault
        opened := fun _ => ⟨rfl, rfl, rfl, rfl, rfl⟩
        firstByte := fun _ hfirst => absurd hfirst (by decide : ¬1 ≤ (0 : BitVec 2).toNat)
        secondByte := fun _ hsecond => absurd hsecond (by decide : (0 : BitVec 2).toNat ≠ 2)
        faultRegs := h.faultRegs }
  | operand ts w kind isOpen more =>
    exact ⟨_, .operand ts w kind (hst ▸ isOpen) (h.n ▸ more), rfl, (h.appendOperand isOpen _).setOut _ _⟩
  | lastOperand ts w kind isOpen last =>
    refine ⟨_, .lastOperand ts w kind (hst ▸ isOpen) (h.n ▸ last), ?_, ?_⟩
    · rw [h.completeRecord_eq isOpen]
    · exact .of_closed rfl nofun (congrArg (· - 1) h.n) hvariant h.cfgStrict h.fault h.faultRegs
  | resync ts w kind live soft =>
    refine ⟨_, .resync ts w kind (hst ▸ live) (h.cfgStrict ▸ soft), hcut, ?_⟩
    exact .of_closed rfl nofun (by rw [hst, h.n]) hvariant h.cfgStrict h.fault h.faultRegs
  | hardError ts w kind live strict =>
    refine ⟨_, .hardError ts w kind (hst ▸ live) (h.cfgStrict ▸ strict), hcut, ?_⟩
    exact .of_closed rfl nofun rfl hvariant h.cfgStrict rfl fun _ => ⟨rfl, rfl, rfl⟩
  | flush isOpen =>
    refine ⟨_, .flush (hst ▸ isOpen), ?_, ?_⟩
    · rw [h.truncatedRecord_eq isOpen]
    · exact .of_closed rfl nofun rfl hvariant h.cfgStrict h.fault h.faultRegs
  | leaveResync resyncing =>
    refine ⟨_, .leaveResync (hst ▸ resyncing), rfl, ?_⟩
    exact .of_closed rfl nofun h.n hvariant h.cfgStrict h.fault h.faultRegs
  | reset v strict =>
    exact ⟨_, .reset v strict, rfl, .of_closed rfl nofun rfl rfl rfl rfl fun hfault => absurd rfl hfault⟩

theorem eventStep_same (hmodes : AdmissibleModes P) (h : SameToTheRules s t) (e : Event) :
    (eventStep P s e).out = (eventStep P t e).out ∧ SameToTheRules (eventStep P s e) (eventStep P t e) := by
  obtain ⟨t', he, hout, hsame⟩ := (eventStep_effect P s e).same hmodes h
  rw [he.eventStep_eq]
  exact ⟨hout, hsame⟩

end SameToTheRules

/-- Settles O56: event by event, over the stream (R23, U6). -/
theorem unspecifiedRegistersAreNeverRead : Obligations.UnspecifiedRegistersAreNeverRead := by
  intro P s t es hmodes h
  induction es generalizing s t with
  | nil => exact ⟨rfl, h⟩
  | cons e es ih =>
    obtain ⟨hout, hsame⟩ := eventStep_same hmodes h e
    obtain ⟨hrecords, hlast⟩ := ih _ _ hsame
    rw [runEvents_cons, runEvents_cons, hout, hrecords]
    exact ⟨rfl, hlast⟩

end Sys2Proof.Machine

/-! Proofs about what no rule reads: the value and width of a timestamp (R15, R4), the fields of a cycle that soft mode does not
use (R37), write cycles (D15), and the cycles before the first opcode fetch (R183). -/

namespace Sys2Proof.Machine

section Timestamps

variable {P : Params} {s t : State} {e : Event} (f : Timestamp → Timestamp)

theorem interrupted_mapTs : interrupted P (s.mapTs f) = (interrupted P s).map (Record.mapTs f) := by
  by_cases isOpen : s.st = .awaiting
  · rw [interrupted_open P s isOpen, interrupted_open P (s.mapTs f) isOpen]; rfl
  · rw [interrupted_closed P s isOpen, interrupted_closed P (s.mapTs f) isOpen]; rfl

/-- R15: an effect of a renamed event on a renamed state is the renamed effect. -/
theorem Effect.mapTs (h : Effect P s e t) (hreset : e.isReset = false) : Effect P (s.mapTs f) (e.mapTs f) (t.mapTs f) := by
  have hcut := interrupted_mapTs (P := P) (s := s) f
  cases h with
  | quiet _ _ why =>
    cases e with
    | raw ts w => exact .quiet (.raw (f ts) w) rfl (why.imp_right (.imp_right (.imp_right nofun)))
    | eos => exact .quiet .eos rfl why
    | reset v strict => exact nomatch hreset
  | fetchOne ts w kind live len =>
    have h := Effect.fetchOne (P := P) (s := s.mapTs f) (f ts) w kind live len
    rw [hcut] at h
    simp only [State.mapTs, List.map_append]
    exact h
  | fetchMore ts w kind live len =>
    have h := Effect.fetchMore (P := P) (s := s.mapTs f) (f ts) w kind live len
    rw [hcut] at h
    exact h
  | operand ts w kind isOpen more => exact .operand (f ts) w kind isOpen more
  | lastOperand ts w kind isOpen last => exact .lastOperand (f ts) w kind isOpen last
  | resync ts w kind live soft =>
    have h := Effect.resync (P := P) (s := s.mapTs f) (f ts) w kind live soft
    rw [hcut] at h
    exact h
  | hardError ts w kind live strict =>
    have h := Effect.hardError (P := P) (s := s.mapTs f) (f ts) w kind live strict
    rw [hcut] at h
    exact h
  | flush isOpen => exact .flush isOpen
  | leaveResync resyncing => exact .leaveResync resyncing
  | reset v strict => exact nomatch hreset

theorem runEvents_mapTs {es : List Event} (hes : ∀ e ∈ es, e.isReset = false) :
    runEvents P (s.mapTs f) (es.map (Event.mapTs f)) =
      ((runEvents P s es).1.mapTs f, (runEvents P s es).2.map (Record.mapTs f)) := by
  induction es generalizing s with
  | nil => rfl
  | cons e es ih =>
    obtain ⟨hreset, hrest⟩ := List.forall_mem_cons.mp hes
    have hnow := ((eventStep_effect P s e).mapTs f hreset).eventStep_eq
    rw [List.map_cons, runEvents_cons, runEvents_cons, hnow, ih hrest, List.map_append]
    rfl

/-- R4: no effect but that of reset, which fills registers of that width, depends on the width of a timestamp. -/
theorem Effect.setTsw (h : Effect P s e t) (hreset : e.isReset = false) (width : Nat) : Effect { P with tsw := width } s e t := by
  cases h with
  | quiet _ notReset why => exact .quiet _ notReset why
  | fetchOne ts w kind live len => exact .fetchOne ts w kind live len
  | fetchMore ts w kind live len => exact .fetchMore ts w kind live len
  | operand ts w kind isOpen more => exact .operand ts w kind isOpen more
  | lastOperand ts w kind isOpen last => exact .lastOperand ts w kind isOpen last
  | resync ts w kind live soft => exact .resync ts w kind live soft
  | hardError ts w kind live strict => exact .hardError ts w kind live strict
  | flush isOpen => exact .flush isOpen
  | leaveResync resyncing => exact .leaveResync resyncing
  | reset v strict => exact nomatch hreset

theorem runEvents_setTsw {es : List Event} (hes : ∀ e ∈ es, e.isReset = false) (width : Nat) :
    runEvents { P with tsw := width } s es = runEvents P s es := by
  induction es generalizing s with
  | nil => rfl
  | cons e es ih =>
    obtain ⟨hreset, hrest⟩ := List.forall_mem_cons.mp hes
    rw [runEvents_cons, runEvents_cons, ((eventStep_effect P s e).setTsw hreset width).eventStep_eq, ih hrest]

theorem interrupted_tsFits (hs : s.tsFits P) : ∀ r ∈ interrupted P s, Record.tsFits P r := by
  obtain ⟨hstart, hend, _⟩ := hs
  by_cases isOpen : s.st = .awaiting
  · rw [interrupted_open P s isOpen]
    exact List.forall_mem_singleton.mpr ⟨hstart, hend⟩
  · rw [interrupted_closed P s isOpen]
    exact List.forall_mem_nil _

/-- D5: every timestamp an effect writes is the event's, or one the state holds, or a free value of the width (R180). -/
theorem Effect.tsFits (h : Effect P s e t) (he : e.tsFits P) (hs : s.tsFits P) :
    t.tsFits P ∧ ∀ r ∈ t.out, Record.tsFits P r := by
  have hcut := interrupted_tsFits hs
  have ⟨hstart, hend, hfault⟩ := hs
  cases h with
  | quiet _ _ _ => exact ⟨hs, List.forall_mem_nil _⟩
  | fetchOne ts w _ _ _ =>
    exact ⟨⟨he, he, hfault⟩, List.forall_mem_append.mpr ⟨hcut, List.forall_mem_singleton.mpr ⟨he, he⟩⟩⟩
  | fetchMore ts w _ _ _ => exact ⟨⟨he, he, hfault⟩, hcut⟩
  | operand ts w _ _ _ => exact ⟨⟨hstart, he, hfault⟩, List.forall_mem_nil _⟩
  | lastOperand ts w _ _ _ => exact ⟨⟨hstart, he, hfault⟩, List.forall_mem_singleton.mpr ⟨hstart, he⟩⟩
  | resync ts w _ _ _ => exact ⟨hs, hcut⟩
  | hardError ts w _ _ _ => exact ⟨⟨hstart, hend, he⟩, hcut⟩
  | flush _ => exact ⟨hs, List.forall_mem_singleton.mpr ⟨hstart, hend⟩⟩
  | leaveResync _ => exact ⟨hs, List.forall_mem_nil _⟩
  | reset v strict => exact ⟨⟨BitVec.isLt _, BitVec.isLt _, BitVec.isLt _⟩, List.forall_mem_nil _⟩

end Timestamps

/-- Settles O57: the renamed effects, those at another width, and what every event of a fitting stream keeps. -/
theorem timestampsAreOnlyCopied : Obligations.TimestampsAreOnlyCopied :=
  ⟨fun _ f _ _ => runEvents_mapTs f, fun _ width _ _ hes => runEvents_setTsw hes width, fun P _ _ =>
    runEvents_induction fun s e he hs => (eventStep_effect P s e).tsFits he hs⟩

section UnusedFields

variable {P : Params} {s : State} {e : Event}

/-- The classifier reads the two line codes alone (R106). -/
theorem kind_packRaw (ts ts' : Timestamp) (w : RawWord) (addr : Addr) (data : Byte) :
    (classify ts' (packRaw addr data (rawSync w) (rawRnw w))).kind = (classify ts w).kind := by
  rw [classify_packRaw]
  rfl

/-- R37: the address of a read cycle is not read. -/
theorem readCycle_addr (ts : Timestamp) (addr addr' : Addr) (data : Byte) :
    readCycle P ⟨ts, addr, data⟩ s = readCycle P ⟨ts, addr', data⟩ s := rfl

/-- R131, R135: in soft mode nothing of an ambiguous cycle is read. -/
theorem ambiguousCycle_soft (hsoft : s.cfgStrict = 0) (c c' : Cycle) : ambiguousCycle P c s = ambiguousCycle P c' s := by
  by_cases hst : s.st = .faulted
  · rw [ambiguousCycle_faulted _ _ _ hst, ambiguousCycle_faulted _ _ _ hst]
  · rw [ambiguousCycle_live _ _ _ hst, ambiguousCycle_live _ _ _ hst, ambiguousExit_soft c _ (by exact hsoft),
      ambiguousExit_soft c' _ (by exact hsoft)]

theorem eventStep_eraseUnused (hsoft : s.cfgStrict = 0) : eventStep P s e.eraseUnused = eventStep P s e := by
  cases e with
  | eos => rfl
  | reset v strict => rfl
  | raw ts w =>
    cases hkind : (classify ts w).kind with
    | fetch => simp only [Event.eraseUnused, hkind]
    | read =>
      simp only [Event.eraseUnused, hkind]
      rw [eventStep_read _ _ _ _ hkind, eventStep_read _ _ _ _ ((kind_packRaw ts _ w _ _).trans hkind), rawCycle_packRaw]
      exact readCycle_addr _ _ _ _
    | write =>
      simp only [Event.eraseUnused, hkind]
      rw [eventStep_write _ _ _ _ hkind, eventStep_write _ _ _ _ ((kind_packRaw ts _ w _ _).trans hkind)]
    | ambiguous =>
      simp only [Event.eraseUnused, hkind]
      rw [eventStep_ambiguous _ _ _ _ hkind, eventStep_ambiguous _ _ _ _ ((kind_packRaw ts _ w _ _).trans hkind)]
      exact ambiguousCycle_soft hsoft _ _

end UnusedFields

/-- Settles O58: event by event; the mode stays soft over the stream. -/
theorem unusedCycleFieldsHaveNoEffect : Obligations.UnusedCycleFieldsHaveNoEffect := by
  intro P s es hsoft hes
  induction es generalizing s with
  | nil => rfl
  | cons e es ih =>
    obtain ⟨hreset, hrest⟩ := List.forall_mem_cons.mp hes
    rw [List.map_cons, runEvents_cons, runEvents_cons, eventStep_eraseUnused hsoft,
      ih _ ((eventStep_cfgStrict hreset).trans hsoft) hrest]

section WriteCycles

variable {P : Params} {s : State}

/-- No run reads the output of the step before it. -/
theorem runEvents_setOut (o : List Record) (es : List Event) :
    (runEvents P { s with out := o } es).2 = (runEvents P s es).2 ∧
      (runEvents P { s with out := o } es).1.clearOut = (runEvents P s es).1.clearOut := by
  cases es with
  | nil => exact ⟨rfl, rfl⟩
  | cons e es =>
    rw [runEvents_cons, runEvents_cons, eventStep_setOut]
    exact ⟨rfl, rfl⟩

end WriteCycles

/-- Settles O59: a write cycle only clears the output (D15), which no later step reads. -/
theorem writesCanBeDroppedFromAStream : Obligations.WritesCanBeDroppedFromAStream := by
  intro P s es
  induction es generalizing s with
  | nil => exact ⟨rfl, rfl⟩
  | cons e es ih =>
    cases hwrite : e.hasKind .write with
    | true =>
      obtain ⟨hrecords, hlast⟩ := ih s
      obtain ⟨hrecords', hlast'⟩ := runEvents_setOut (P := P) (s := s) [] es
      rw [List.filter_cons_of_neg (by simp [hwrite]), runEvents_cons, eventStep_hasKind_write hwrite]
      exact ⟨hrecords.trans hrecords'.symm, hlast.trans hlast'.symm⟩
    | false =>
      obtain ⟨hrecords, hlast⟩ := ih (eventStep P s e)
      rw [List.filter_cons_of_pos (by simp [hwrite]), runEvents_cons, runEvents_cons, hrecords]
      exact ⟨rfl, hlast⟩

section BeforeTheFirstFetch

variable {P : Params} {s : State}

/-- R125 to R127, R133 to R135: in soft mode with nothing open, a cycle that is no fetch changes `st` at most, to another of
the two states with nothing open. -/
theorem eventStep_before_fetch (hst : s.st = .idle ∨ s.st = .resyncing) (hsoft : s.cfgStrict = 0) {e : Event}
    (he : e.hasKind .read = true ∨ e.hasKind .write = true ∨ e.hasKind .ambiguous = true) :
    ∃ st', (st' = .idle ∨ st' = .resyncing) ∧ eventStep P s e = { s with st := st', out := [] } := by
  rcases or_assoc.mpr he with hdata | hambiguous
  · exact ⟨s.st, hst, eventStep_read_or_write (by rcases hst with h | h <;> simp [h]) hdata⟩
  · cases e with
    | raw ts w =>
      refine ⟨.resyncing, .inr rfl, ?_⟩
      rw [eventStep_ambiguous _ _ _ _ (beq_iff_eq.mp hambiguous), ambiguousCycle_closed _ _ _ hst]
      exact ambiguousExit_soft _ s.clearOut hsoft
    | eos => exact nomatch hambiguous
    | reset v strict => exact nomatch hambiguous

theorem runEvents_before_fetch (hst : s.st = .idle ∨ s.st = .resyncing) (hsoft : s.cfgStrict = 0) {es : List Event}
    (hes : ∀ e ∈ es, e.hasKind .read = true ∨ e.hasKind .write = true ∨ e.hasKind .ambiguous = true) :
    ∃ st' o, (st' = .idle ∨ st' = .resyncing) ∧ runEvents P s es = ({ s with st := st', out := o }, []) := by
  induction es generalizing s with
  | nil => exact ⟨s.st, s.out, hst, rfl⟩
  | cons e es ih =>
    obtain ⟨hfirst, hrest⟩ := List.forall_mem_cons.mp hes
    obtain ⟨st₁, hst₁, hnow⟩ := eventStep_before_fetch (P := P) hst hsoft hfirst
    obtain ⟨st₂, o, hst₂, hlater⟩ := ih (s := { s with st := st₁, out := [] }) hst₁ hsoft hrest
    exact ⟨st₂, o, hst₂, by rw [runEvents_cons, hnow, hlater]; rfl⟩

end BeforeTheFirstFetch

/-- Settles O60: the cycles before the fetch change `st` alone, which `START` does not read (R132, R183). -/
theorem decodingStartsAtTheNextFetch : Obligations.DecodingStartsAtTheNextFetch := by
  intro P s es c hst hsoft hes
  obtain ⟨st', o, hst', hrun⟩ := runEvents_before_fetch (P := P) hst hsoft hes
  have hfetch : eventStep P { s with st := st', out := o } c.fetchEvent = eventStep P s c.fetchEvent := by
    rw [eventStep_fetchEvent, eventStep_fetchEvent, fetchCycle, fetchCycle, fetchWith_closed _ _ _ s hst]
    exact fetchWith_setSt P _ c { s with out := o } st' hst'
  rw [runEvents_append, hrun, runEvents_cons, hfetch, runEvents_nil, List.append_nil]
  rfl

/-- Settles O45: nothing is open in `State.reset`. -/
theorem resetStateMeetsTheInvariant : Obligations.ResetStateMeetsTheInvariant :=
  ⟨inv_of_closed (.inl rfl) rfl rfl, nofun⟩

/-- Settles O1: the values R23 lists, and the codes of R11 and R18. -/
theorem resetStateHasTheSpecsValues : Obligations.ResetStateHasTheSpecsValues :=
  ⟨⟨rfl, rfl, rfl, rfl, rfl, rfl, rfl, rfl, rfl⟩, fun _ => rfl, ⟨rfl, rfl, rfl, rfl⟩, rfl, rfl⟩

end Sys2Proof.Machine

/-! Proofs about the default tables (spec/30_encoding.md R54, R58, R59) and the texts of the modes (spec/41_mode_resolver.md R81
to R97). -/

namespace Sys2Proof.Machine

section DefaultTable

theorem optabRows_printable : ∀ row ∈ optabRows, ∀ d ∈ row, printableMnemonic d.mn = true := by decide

theorem unknown_printable : printableMnemonic unknownDescriptor.mn = true := by decide

/-- A list entry, or the default past its end. -/
theorem getD_mem_or {α : Type} (xs : List α) (k : Nat) (x : α) : xs.getD k x ∈ xs ∨ xs.getD k x = x := by
  by_cases hk : k < xs.length
  · rw [List.getD_eq_getElem _ _ hk]
    exact .inl (List.getElem_mem hk)
  · exact .inr (List.getD_eq_default _ _ (by omega))

/-- R78 (b): every entry is one of the rows', or the unknown marker. -/
theorem optabExtended_printable (op : Byte) : printableMnemonic (optabExtended op).mn = true := by
  rw [optabExtended]
  rcases getD_mem_or (optabRows.getD (op.toNat / 16) []) (op.toNat % 16) unknownDescriptor with hentry | hentry
  · rcases getD_mem_or optabRows (op.toNat / 16) [] with hrow | hrow
    · exact optabRows_printable _ hrow _ hentry
    · rw [hrow] at hentry
      exact nomatch hentry
  · rw [hentry]
    exact unknown_printable

theorem optabDefault_printable (v : BitVec 1) (op : Byte) : printableMnemonic (optabDefault v op).mn = true := by
  rw [optabDefault]
  split
  · exact unknown_printable
  · exact optabExtended_printable op

end DefaultTable

/-- Settles O31: the rows' mnemonics, the four entries of R74 to R77, and the mode table of R54. -/
theorem defaultTableIsAdmissible : Obligations.DefaultTableIsAdmissible where
  left :=
    { printable := optabDefault_printable
      ldaImmediate := rfl
      jmpAbsolute := rfl
      bplRelative := rfl
      unknown02 := rfl }
  right :=
    { template := fun _ => rfl
      implied := rfl
      relative := rfl
      immediate := rfl
      absolute := rfl }

/-- Settles O32: three named entries pass the mux, the unknown one is forced to Implied (R73). -/
theorem sourceFixesFourEntries : Obligations.SourceFixesFourEntries := by
  intro P h
  have hlda := h.ldaImmediate
  have hjmp := h.jmpAbsolute
  have hbpl := h.bplRelative
  refine ⟨?_, ?_, ?_, lookup_of_unknown (by rw [h.unknown02]; rfl)⟩
  · rw [lookup_of_named (by rw [hlda]; decide), hlda]
  · rw [lookup_of_named (by rw [hjmp]; decide), hjmp]
  · rw [lookup_of_named (by rw [hbpl]; decide), hbpl]

/-- Settles O33: all 256 entries of each table, counted. -/
theorem defaultTableCounts : Obligations.DefaultTableCounts := ⟨rfl, rfl⟩

section Texts

variable (m : Mnemonic) (b0 b1 : Byte) (pc : Addr)

theorem length_mnemonicText : m.text.length = 3 := rfl

theorem length_hex2 (b : Byte) : (hex2 b).length = 2 := rfl

theorem length_hex4 (w : Addr) : (hex4 w).length = 4 := rfl

/-- R96: an operand text has at most nine characters, those of Relative. -/
theorem length_operandText_le (mode : AddrMode) : (operandText blockParams mode b0 b1 pc).length ≤ 9 := by
  cases mode <;> simp [operandText, text, length_hex2, length_hex4]

theorem length_format (mode : AddrMode) :
    (format blockParams m mode b0 b1 pc).length = 3 + (operandText blockParams mode b0 b1 pc).length := by
  rw [format, List.length_append, length_mnemonicText]
  rfl

end Texts

/-- Settles O34: each mode's template after the mnemonic (R81 to R90). -/
theorem shortModesRenderTheirTemplates : Obligations.ShortModesRenderTheirTemplates :=
  fun _ _ _ _ => ⟨⟨rfl, rfl⟩, ⟨rfl, rfl⟩, ⟨rfl, rfl⟩, ⟨rfl, rfl⟩, ⟨rfl, rfl⟩, ⟨rfl, rfl⟩, ⟨rfl, rfl⟩, ⟨rfl, rfl⟩,
    ⟨rfl, rfl⟩, rfl, rfl⟩

section Operands

/-- R51 (c), R32: the high byte of a 16-bit operand is the second to arrive, the low byte the first. -/
theorem op16_high (b0 b1 : Byte) : (op16 b0 b1).extractLsb' 8 8 = b1 := BitVec.extractLsb'_append_eq_left

theorem op16_low (b0 b1 : Byte) : (op16 b0 b1).extractLsb' 0 8 = b0 := BitVec.extractLsb'_append_eq_right

/-- R97: the digits of a 16-bit operand are those of its second byte, then those of its first. -/
theorem hex4_op16 (b0 b1 : Byte) : hex4 (op16 b0 b1) = hex2 b1 ++ hex2 b0 := by
  rw [hex4, op16_high, op16_low]

theorem toNat_op16 (b0 b1 : Byte) : (op16 b0 b1).toNat = 256 * b1.toNat + b0.toNat := by
  have happend : (op16 b0 b1).toNat = b1.toNat <<< 8 ||| b0.toNat := BitVec.toNat_append b1 b0
  rw [happend, ← Nat.shiftLeft_add_eq_or_of_lt b0.isLt, Nat.shiftLeft_eq]
  omega

end Operands

/-- Settles O35: each mode's template with the digits of the operand (R91 to R95). -/
theorem absoluteModesRenderTheirTemplates : Obligations.AbsoluteModesRenderTheirTemplates := by
  intro m b0 b1 pc
  simp only [format, encodingFor_block, operandText, hex4_op16, List.append_assoc, and_true]
  exact ⟨rfl, rfl, rfl, rfl, rfl⟩

/-- Settles O36: three characters of the mnemonic and at most nine of the operand. -/
theorem textHasThreeToTwelveCharacters : Obligations.TextHasThreeToTwelveCharacters := by
  intro m mode b0 b1 pc
  have hoperand := length_operandText_le b0 b1 pc mode
  have hlength := length_format m b0 b1 pc mode
  omega

/-- Settles O39: the appended bytes as a number (R51). -/
theorem firstOperandByteIsTheLowByte : Obligations.FirstOperandByteIsTheLowByte := fun b0 b1 => ⟨toNat_op16 b0 b1, rfl⟩

end Sys2Proof.Machine
